-- ==== Sys2Proof/Word.lean ====
section
/-! DEFINITION. The two words of the block: bytes, and the 32-bit operation word (00_scope R9). -/

namespace Sys2Proof

/-- A byte, 0 to 255 (00_scope R9). -/
abbrev Byte := BitVec 8

/-- The 32-bit operation word (30_encoding R60). -/
abbrev Word := BitVec 32

end Sys2Proof
end

