-- ==== Sys2Proof/Config.lean ====
section
/-! DEFINITION. What one instance fixes and the spec leaves OPEN (00_scope R8), and TRANSPORT's free draws
(20_memory R44, R45). Every value the spec leaves open is an opaque constant: no proof can see it. -/

namespace Sys2Proof

/-- TRANSPORT's answer to one byte write (20_memory R44). A failed write may or may not have put its byte on the line. -/
inductive TxAnswer
  /-- The byte is on the line. -/
  | ok
  /-- The write failed, and its byte is on the line. -/
  | failSent
  /-- The write failed, and its byte is not on the line. -/
  | failLost
deriving DecidableEq, Repr

/-- TRANSPORT's answer to one read (20_memory R45). -/
inductive RxAnswer
  /-- The bytes the read returns. -/
  | ok (reply : List Byte)
  /-- The read failed. -/
  | fail
deriving DecidableEq, Repr

/-- An OPEN row of the command table: command id and descriptor template (40_builder R80, R81). -/
structure CmdRow where
  id : Byte
  tmpl : List Byte
deriving DecidableEq, Repr

/-- The OPEN part of CMDTAB: every row but CmdW's, and LoadBitmap's placeholder offset (40_builder R81). -/
structure CmdTab where
  loadText : CmdRow
  loadBitmap : CmdRow
  cmd3 : CmdRow
  cmd5 : CmdRow
  cmdR : CmdRow
  cmdX : CmdRow
  cmdT : CmdRow
  clearRam : CmdRow
  posLoadBitmap : Nat
deriving DecidableEq, Repr

/-- The OPEN parameters of one instance (00_scope R8). -/
structure Params where
  /-- WAKE_PRE_LEN -/
  wakePreLen : Nat
  /-- WAKE_POST -/
  wakePost : List Byte
  /-- CMDTAB and POS_LOADBITMAP -/
  cmdTab : CmdTab
  /-- ACK_OFFSETS -/
  ackOffsets : List Nat
  /-- MAX_DATA -/
  maxData : Nat
  /-- RX_MAX -/
  rxMax : Nat
deriving DecidableEq, Repr

namespace Config

/-- WAKE_PRE_LEN (00_scope R8). -/
opaque wakePreLen : Nat
/-- WAKE_POST (00_scope R8). -/
opaque wakePost : List Byte
/-- The command id of the named type with this CTYPE code (40_builder R81). -/
opaque rowId : Nat → Byte
/-- The template bytes of the named type with this CTYPE code, before the cut to at most 9 (40_builder R81). -/
opaque rowTmpl : Nat → List Byte
/-- The first byte of LoadBitmap's template, which is not empty (40_builder R81). -/
opaque loadBitmapHead : Byte
/-- POS_LOADBITMAP, before it is brought into the template (40_builder R81). -/
opaque loadBitmapPos : Nat
/-- The first of the ACK_OFFSETS, of which there is at least one (00_scope R8). -/
opaque ackOffset : Nat
/-- The further ACK_OFFSETS. -/
opaque ackOffsetsMore : List Nat
/-- MAX_DATA less 1, since MAX_DATA is at least 1 (00_scope R8). -/
opaque maxDataLess1 : Nat
/-- RX_MAX less 1, since RX_MAX is at least 1 (00_scope R8). -/
opaque rxMaxLess1 : Nat
/-- TRANSPORT's answer to the write poll of this number (20_memory R44): `none` is no answer yet (00_scope R7). -/
opaque txDraw : Nat → Option TxAnswer
/-- TRANSPORT's answer to the read poll of this number (20_memory R45): `none` is no answer yet (00_scope R7). -/
opaque rxDraw : Nat → Option RxAnswer

/-- The row of a named type other than LoadBitmap and CmdW: 0 to 9 template bytes (40_builder R81). -/
def row (code : Nat) : CmdRow := { id := rowId code, tmpl := (rowTmpl code).take 9 }

/-- LoadBitmap's template: 1 to 9 bytes (40_builder R81). -/
def loadBitmapTmpl : List Byte := loadBitmapHead :: (rowTmpl 1).take 8

/-- The instance: every value in its stated range is one of these, and no other (00_scope R8; log entry 2). -/
def params : Params :=
  { wakePreLen := wakePreLen
    wakePost := wakePost
    cmdTab :=
      { loadText := row 0
        loadBitmap := { id := rowId 1, tmpl := loadBitmapTmpl }
        cmd3 := row 3
        cmd5 := row 5
        cmdR := row 14
        cmdX := row 18
        cmdT := row 20
        clearRam := row 21
        posLoadBitmap := loadBitmapPos % loadBitmapTmpl.length }
    ackOffsets := ackOffset :: ackOffsetsMore
    maxData := maxDataLess1 + 1
    rxMax := rxMaxLess1 + 1 }

end Config

end Sys2Proof
end

