-- ==== Sys2Proof/Syntax.lean ====
section
/-! DEFINITION. The syntax of requests: operations, command types, instructions, and the request HOST presents
(30_encoding R60 to R71). -/

namespace Sys2Proof

/-- The operation field OP decoded (30_encoding R65). -/
inductive Op
  | build | frame | buildframe | send | recv | validate | exec | revb | session | wrcfg | rdstat | clrstat
deriving DecidableEq, Repr

/-- The nine named command types (00_scope, glossary; 30_encoding R66). -/
inductive CmdType
  | loadText | loadBitmap | cmd3 | cmd5 | cmdR | cmdW | cmdX | cmdT | clearRam
deriving DecidableEq, Repr

/-- What the CTYPE field says: a named type, or a code marked unknown, which is no illegal encoding (30_encoding R66). -/
inductive CType
  | named (t : CmdType)
  | unknown (code : BitVec 5)
deriving DecidableEq, Repr

/-- An instruction: one constructor per row of the opcode table, with the fields and the data operand it uses
(30_encoding R65, R71). -/
inductive Instr
  /-- BUILD ctype, seq, payload (40_builder R83) -/
  | build (ctype : CType) (seq : Byte) (payload : List Byte)
  /-- FRAME seq, command bytes (41_framer R101) -/
  | frame (seq : Byte) (command : List Byte)
  /-- BUILDFRAME ctype, seq, payload (41_framer R106) -/
  | buildframe (ctype : CType) (seq : Byte) (payload : List Byte)
  /-- SEND frame bytes (42_serial R124) -/
  | send (frame : List Byte)
  /-- RECV (42_serial R128) -/
  | recv
  /-- VALIDATE response bytes (42_serial R123) -/
  | validate (reply : List Byte)
  /-- EXEC seq (42_serial R131) -/
  | exec (seq : Byte)
  /-- REVB bytes (42_serial R133) -/
  | revb (bytes : List Byte)
  /-- SESSION (43_control R150) -/
  | session
  /-- WRCFG imm8 (43_control R151) -/
  | wrcfg (imm8 : Byte)
  /-- RDSTAT (43_control R152) -/
  | rdstat
  /-- CLRSTAT (43_control R153) -/
  | clrstat
deriving DecidableEq, Repr

/-- A request: an operation word and a data operand whose length travels with it (30_encoding R70). -/
structure Request where
  word : Word
  data : List Byte
deriving DecidableEq, Repr

/-- Why a request is illegal (30_encoding R69). All have one effect, so the reason is not observable (R68). -/
inductive Illegal
  /-- The data operand is longer than MAX_DATA. -/
  | dataTooLong
  /-- OP is `0x0`, `0xD`, `0xE` or `0xF`. -/
  | reservedOp
  /-- A bit of RSV1 or RSV0 is set (R64). -/
  | reservedBits
  /-- CTYPE or SEQ is not zero and the operation does not use it (R67). -/
  | unusedField
  /-- A data operand is given to an operation that takes none (R67). -/
  | dataNotTaken
deriving DecidableEq, Repr

end Sys2Proof
end

