-- ==== Sys2Proof/Decode.lean ====
section
/-! DEFINITION. Decoding and encoding of requests (30_encoding R60 to R69): the fields of the operation word, the opcode
map, the CTYPE codes, the decoder, total over every word and data operand, and the encoder. -/

namespace Sys2Proof

/-! ## Fields of the operation word (R60) -/

/-- OP, `word[3:0]` (30_encoding R61). -/
def Word.op (w : Word) : BitVec 4 := w.extractLsb' 0 4

/-- RSV0, `word[7:4]` (30_encoding R64). -/
def Word.rsv0 (w : Word) : BitVec 4 := w.extractLsb' 4 4

/-- SEQ or IMM8, `word[15:8]` (30_encoding R62). -/
def Word.seq (w : Word) : Byte := w.extractLsb' 8 8

/-- CTYPE, `word[20:16]` (30_encoding R63). -/
def Word.ctype (w : Word) : BitVec 5 := w.extractLsb' 16 5

/-- RSV1, `word[31:21]` (30_encoding R64). -/
def Word.rsv1 (w : Word) : BitVec 11 := w.extractLsb' 21 11

/-- The word with these fields and every reserved bit zero (30_encoding R60). -/
def Word.ofFields (op : BitVec 4) (seq : Byte) (ctype : BitVec 5) : Word :=
  0#11 ++ ctype ++ seq ++ 0#4 ++ op

/-! ## The opcode map (R65) and the CTYPE codes (R66) -/

/-- The operation a code selects, none for the reserved codes (30_encoding R65). -/
def Op.ofCode (c : BitVec 4) : Option Op :=
  match c.toNat with
  | 1 => some .build
  | 2 => some .frame
  | 3 => some .buildframe
  | 4 => some .send
  | 5 => some .recv
  | 6 => some .validate
  | 7 => some .exec
  | 8 => some .revb
  | 9 => some .session
  | 10 => some .wrcfg
  | 11 => some .rdstat
  | 12 => some .clrstat
  | _ => none

/-- The code of an operation (30_encoding R65). -/
def Op.code : Op → BitVec 4
  | .build => 0x1#4
  | .frame => 0x2#4
  | .buildframe => 0x3#4
  | .send => 0x4#4
  | .recv => 0x5#4
  | .validate => 0x6#4
  | .exec => 0x7#4
  | .revb => 0x8#4
  | .session => 0x9#4
  | .wrcfg => 0xA#4
  | .rdstat => 0xB#4
  | .clrstat => 0xC#4

/-- The operation uses the CTYPE field (30_encoding R65, column 'fields used'). -/
def Op.usesCtype : Op → Bool
  | .build | .buildframe => true
  | .frame | .send | .recv | .validate | .exec | .revb | .session | .wrcfg | .rdstat | .clrstat => false

/-- The operation uses the SEQ or IMM8 field (30_encoding R65, column 'fields used'). -/
def Op.usesSeq : Op → Bool
  | .build | .frame | .buildframe | .exec | .wrcfg => true
  | .send | .recv | .validate | .revb | .session | .rdstat | .clrstat => false

/-- The operation takes a data operand (30_encoding R65, column 'data operand'). -/
def Op.takesData : Op → Bool
  | .build | .frame | .buildframe | .send | .validate | .revb => true
  | .recv | .exec | .session | .wrcfg | .rdstat | .clrstat => false

/-- The CTYPE code of a named command type (30_encoding R66). -/
def CmdType.code : CmdType → BitVec 5
  | .loadText => 0#5
  | .loadBitmap => 1#5
  | .cmd3 => 3#5
  | .cmd5 => 5#5
  | .cmdR => 14#5
  | .cmdW => 17#5
  | .cmdX => 18#5
  | .cmdT => 20#5
  | .clearRam => 21#5

/-- The command type a CTYPE code selects; every other code is unknown (30_encoding R66). -/
def CType.ofCode (c : BitVec 5) : CType :=
  match c.toNat with
  | 0 => .named .loadText
  | 1 => .named .loadBitmap
  | 3 => .named .cmd3
  | 5 => .named .cmd5
  | 14 => .named .cmdR
  | 17 => .named .cmdW
  | 18 => .named .cmdX
  | 20 => .named .cmdT
  | 21 => .named .clearRam
  | _ => .unknown c

/-- The CTYPE code of a command type (30_encoding R66). -/
def CType.code : CType → BitVec 5
  | .named t => t.code
  | .unknown c => c

/-! ## The decoder (R68) -/

/-- The instruction a legal operation and its fields stand for (30_encoding R65, R71). -/
def Instr.ofFields (op : Op) (seq : Byte) (ctype : BitVec 5) (data : List Byte) : Instr :=
  match op with
  | .build => .build (CType.ofCode ctype) seq data
  | .frame => .frame seq data
  | .buildframe => .buildframe (CType.ofCode ctype) seq data
  | .send => .send data
  | .recv => .recv
  | .validate => .validate data
  | .exec => .exec seq
  | .revb => .revb data
  | .session => .session
  | .wrcfg => .wrcfg seq
  | .rdstat => .rdstat
  | .clrstat => .clrstat

/-- The decode procedure, with the checks in the order of 30_encoding R68; `maxData` is MAX_DATA. -/
def decode (maxData : Nat) (r : Request) : Except Illegal Instr :=
  if maxData < r.data.length then .error .dataTooLong
  else
    match Op.ofCode (Word.op r.word) with
    | none => .error .reservedOp
    | some op =>
      if Word.rsv1 r.word != 0#11 || Word.rsv0 r.word != 0#4 then .error .reservedBits
      else if !op.usesCtype && Word.ctype r.word != 0#5 then .error .unusedField
      else if !op.usesSeq && Word.seq r.word != 0#8 then .error .unusedField
      else if !op.takesData && !r.data.isEmpty then .error .dataNotTaken
      else .ok (Instr.ofFields op (Word.seq r.word) (Word.ctype r.word) r.data)

/-! ## The encoder -/

/-- The operation of an instruction. -/
def Instr.op : Instr → Op
  | .build _ _ _ => .build
  | .frame _ _ => .frame
  | .buildframe _ _ _ => .buildframe
  | .send _ => .send
  | .recv => .recv
  | .validate _ => .validate
  | .exec _ => .exec
  | .revb _ => .revb
  | .session => .session
  | .wrcfg _ => .wrcfg
  | .rdstat => .rdstat
  | .clrstat => .clrstat

/-- The SEQ or IMM8 field of an instruction's word, zero where it is unused (30_encoding R67). -/
def Instr.seqField : Instr → Byte
  | .build _ seq _ | .frame seq _ | .buildframe _ seq _ | .exec seq => seq
  | .wrcfg imm8 => imm8
  | .send _ | .recv | .validate _ | .revb _ | .session | .rdstat | .clrstat => 0#8

/-- The CTYPE field of an instruction's word, zero where it is unused (30_encoding R67). -/
def Instr.ctypeField : Instr → BitVec 5
  | .build ctype _ _ | .buildframe ctype _ _ => ctype.code
  | .frame _ _ | .send _ | .recv | .validate _ | .exec _ | .revb _ | .session | .wrcfg _ | .rdstat | .clrstat => 0#5

/-- The data operand of an instruction, empty where it takes none (30_encoding R67, R71). -/
def Instr.data : Instr → List Byte
  | .build _ _ d | .frame _ d | .buildframe _ _ d | .send d | .validate d | .revb d => d
  | .recv | .exec _ | .session | .wrcfg _ | .rdstat | .clrstat => []

/-- The request that stands for an instruction (30_encoding R60, R65 to R67). -/
def encode (i : Instr) : Request :=
  { word := Word.ofFields i.op.code i.seqField i.ctypeField, data := i.data }

/-! ## The host's view of the decoder -/

/-- The instruction the decoder reads from the word whose low `nbits` bits are those of `w`, with an empty data operand.
The operation word is one 32-bit value, so no byte order arises (20_memory R46). -/
def decodeTableWord (nbits w : Nat) : Option Instr :=
  match decode Config.params.maxData { word := BitVec.ofNat 32 (w % 2 ^ nbits), data := [] } with
  | .ok i => some i
  | .error _ => none

end Sys2Proof
end

