-- ==== Sys2Proof/Machine/State.lean ====
section
/-! DEFINITION. The state of one KDSP framer with its HOST and TRANSPORT, as plain data (10_state; 00_scope R5), and the
state right after reset (70_reset R190). The block has no memory, no register file and no program counter
(10_state R20, R21; 20_memory R40). -/

namespace Sys2Proof.Machine

/-- The tag of a response (30_encoding R72). Tag 3 is never produced, so it has no constructor. -/
inductive Tag
  /-- success -/
  | ok
  /-- failure; the bytes are the sentinel -/
  | error
  /-- strict mode only: the device sent a negative acknowledgement -/
  | negack
deriving DecidableEq, Repr

/-- A response to HOST (30_encoding R72). -/
structure Response where
  tag : Tag
  bytes : List Byte
deriving DecidableEq, Repr

/-- What follows the transmission of a frame: SEND responds, EXEC goes on to read the reply (42_serial R124, R131). -/
inductive After
  | respond
  | receive
deriving DecidableEq, Repr

/-- A request in progress, waiting on TRANSPORT (00_scope R7; 70_reset R190, R191). -/
inductive Progress
  /-- The byte at the head of `rest` waits for its write to be answered; `frame` is the frame being sent. -/
  | sending (frame rest : List Byte) (after : After)
  /-- The one read of RECV or EXEC waits for its answer. -/
  | receiving
deriving DecidableEq, Repr

/-- Nothing stops the block with a fault: every failure is a response and a sticky STATUS bit (60_exceptions R171,
R175), and an unanswered transport request is held (00_scope R7). So there is no constructor and no step raises one. -/
inductive Fault
deriving DecidableEq, Repr

/-- Why a step may give no meaning. -/
inductive Refusal
  /-- An instruction without a meaning, rejected by name in `exec`. No arm of this model raises it; raising it is safe,
  since the machine then stops. -/
  | notModelled (mnemonic : String)
deriving DecidableEq, Repr

/-- The state. The first four fields after `params` are the block's own (10_state; 70_reset R190); the others are
HOST's requests and reset line, what a run shows (10_state R32), and TRANSPORT's answers. -/
structure State where
  /-- The instance: CMDTAB and the OPEN parameters, constant (10_state R27; 00_scope R8; log entry 1). -/
  params : Params
  /-- FIRST, the session-first-frame flag (10_state R23). -/
  first : Bool
  /-- CFG (10_state R22). -/
  cfg : Byte
  /-- STATUS bits 7:1; bit 0 has no storage (10_state R24, R25). -/
  sticky : BitVec 7
  /-- The request in progress, if TRANSPORT has not answered it yet (70_reset R190; log entry 4). -/
  progress : Option Progress
  /-- The requests HOST has yet to have accepted, in issue order (20_memory R47, R48; log entry 6). -/
  host : List Request
  /-- Reset is asserted at this step (70_reset R191; log entry 5). -/
  resetLine : Bool
  /-- The responses returned to HOST, oldest first (10_state R32). -/
  responses : List Response
  /-- WIRE, the bytes on the line, oldest first (20_memory R44). -/
  wire : List Byte
  /-- The transport reads made and their answers, oldest first (10_state R32). -/
  reads : List RxAnswer
  /-- TRANSPORT's answers to the first write polls; later ones are free draws (20_memory R44; log entry 3). -/
  txScript : List (Option TxAnswer)
  /-- How many times a write answer has been asked for (log entry 3). -/
  txPolls : Nat
  /-- TRANSPORT's answers to the first read polls; later ones are free draws (20_memory R45; log entry 3). -/
  rxScript : List (Option RxAnswer)
  /-- How many times a read answer has been asked for (log entry 3). -/
  rxPolls : Nat
deriving DecidableEq, Repr

/-- The machine right after reset (70_reset R190): FIRST 1, CFG `0x00`, STATUS bits 7:1 clear, no request in progress. The
instance is any one (`Config.params`), TRANSPORT's answers are all free draws, and HOST has issued nothing
(log entries 1, 3, 5, 6 and 7). -/
def State.reset : State :=
  { params := Config.params
    first := true
    cfg := 0x00#8
    sticky := 0#7
    progress := none
    host := []
    resetLine := false
    responses := []
    wire := []
    reads := []
    txScript := []
    txPolls := 0
    rxScript := []
    rxPolls := 0 }

end Sys2Proof.Machine
end

