-- ==== Sys2Proof/Machine/Flags.lean ====
section
/-! DEFINITION. The registers CFG and STATUS and the flag FIRST: their bits, how they read and how they are written
(10_state R22 to R26). Every read and write of them goes through this file. -/

namespace Sys2Proof.Machine

/-- The sticky bits of STATUS, which are also the cause codes (10_state R24; 60_exceptions R170). -/
inductive StatusBit
  | ill | unk | txf | rxf | nak | inv | emp
deriving DecidableEq, Repr

/-- The position of a sticky bit in STATUS (10_state R24). -/
def StatusBit.pos : StatusBit → Nat
  | .ill => 1
  | .unk => 2
  | .txf => 3
  | .rxf => 4
  | .nak => 5
  | .inv => 6
  | .emp => 7

/-- The bit of `State.sticky`, which holds STATUS bits 7:1, that stores a sticky bit. -/
def stickyMask (b : StatusBit) : BitVec 7 := 1#7 <<< (b.pos - 1)

/-- The 8-bit STATUS: bits 7:1 as stored, bit 0 the current FIRST (10_state R24, R25). -/
def State.status (s : State) : Byte := s.sticky ++ BitVec.ofBool s.first

/-- `flag(X)`: sets sticky bit X and leaves the others (10_state R26). -/
def State.flag (s : State) (b : StatusBit) : State := { s with sticky := s.sticky ||| stickyMask b }

/-- `STATUS[7:1] <- 0`; bit 0 still mirrors FIRST (43_control R153). -/
def State.clearSticky (s : State) : State := { s with sticky := 0#7 }

/-- `FIRST <- v` (10_state R23). -/
def State.setFirst (s : State) (v : Bool) : State := { s with first := v }

/-- CFG.STRICT (10_state R22). -/
def State.strict (s : State) : Bool := s.cfg.getLsbD 0

/-- CFG as it reads: bits 7:1 read as 0 (10_state R22). -/
def State.cfgRead (s : State) : Byte := s.cfg &&& 0x01#8

/-- `CFG.STRICT <- v[0]`, `CFG[7:1] <- 0` (43_control R151). -/
def State.writeCfg (s : State) (v : Byte) : State := { s with cfg := v &&& 0x01#8 }

end Sys2Proof.Machine
end

