-- ==== Sys2Proof/Machine/Operands.lean ====
section
/-! DEFINITION. What the operations compute from their operands: the constants of 00_scope R8, checksum and bit reversal
(00_scope R11, R12), command table and command bytes (40_builder), frames (41_framer), verdicts (42_serial). -/

namespace Sys2Proof.Machine

/-! ## Constants (00_scope R8) -/

/-- MASTER_ADDR, hardwired (10_state R28). -/
def masterAddr : Byte := 0x01#8

/-- TERM: CR, LF and the extended line-feed trailer. -/
def term : List Byte := [0x0D#8, 0x0A#8, 0x55#8, 0x00#8]

/-- SENTINEL, the bytes "ERROR" (30_encoding R72). -/
def sentinel : List Byte := [0x45#8, 0x52#8, 0x52#8, 0x4F#8, 0x52#8]

/-- ACK_POS, the positive acknowledgement marker. -/
def ackPos : Byte := 0x06#8

/-- ACK_NEG, the negative acknowledgement marker. -/
def ackNeg : Byte := 0x15#8

/-- WAKE_BYTE, the byte the wake-up preamble repeats. -/
def wakeByte : Byte := 0x55#8

/-! ## Checksum and bit reversal -/

/-- `sum8(A)`: the sum of the bytes as naturals, mod 256 (00_scope R11). -/
def sum8 (a : List Byte) : Byte := BitVec.ofNat 8 (a.map BitVec.toNat).sum

/-- `rev8(b)`: bit i of the result is bit 7-i of b (00_scope R12). -/
def rev8 (b : Byte) : Byte :=
  BitVec.ofBool (b.getLsbD 0) ++ BitVec.ofBool (b.getLsbD 1) ++ BitVec.ofBool (b.getLsbD 2) ++ BitVec.ofBool (b.getLsbD 3)
    ++ BitVec.ofBool (b.getLsbD 4) ++ BitVec.ofBool (b.getLsbD 5) ++ BitVec.ofBool (b.getLsbD 6) ++ BitVec.ofBool (b.getLsbD 7)

/-! ## The command table and command bytes (40_builder) -/

/-- `id(t)` (40_builder R81). -/
def cmdId (p : Params) : CmdType → Byte
  | .loadText => p.cmdTab.loadText.id
  | .loadBitmap => p.cmdTab.loadBitmap.id
  | .cmd3 => p.cmdTab.cmd3.id
  | .cmd5 => p.cmdTab.cmd5.id
  | .cmdR => p.cmdTab.cmdR.id
  | .cmdW => 0x57#8
  | .cmdX => p.cmdTab.cmdX.id
  | .cmdT => p.cmdTab.cmdT.id
  | .clearRam => p.cmdTab.clearRam.id

/-- `tmpl(t)` (40_builder R81). CmdW's one byte is the placeholder, whose value is never observable (log entry 10). -/
def cmdTmpl (p : Params) : CmdType → List Byte
  | .loadText => p.cmdTab.loadText.tmpl
  | .loadBitmap => p.cmdTab.loadBitmap.tmpl
  | .cmd3 => p.cmdTab.cmd3.tmpl
  | .cmd5 => p.cmdTab.cmd5.tmpl
  | .cmdR => p.cmdTab.cmdR.tmpl
  | .cmdW => [0x00#8]
  | .cmdX => p.cmdTab.cmdX.tmpl
  | .cmdT => p.cmdTab.cmdT.tmpl
  | .clearRam => p.cmdTab.clearRam.tmpl

/-- `pos(t)`: the placeholder's offset, for LoadBitmap and CmdW only (40_builder R81). -/
def cmdPos (p : Params) : CmdType → Option Nat
  | .loadBitmap => some p.cmdTab.posLoadBitmap
  | .cmdW => some 0
  | .loadText | .cmd3 | .cmd5 | .cmdR | .cmdX | .cmdT | .clearRam => none

/-- `desc(t, s)`: the template with its placeholder, if it has one, replaced by the sequence number (40_builder R82). -/
def descriptor (p : Params) (t : CmdType) (seq : Byte) : List Byte :=
  match cmdPos p t with
  | some k => (cmdTmpl p t).set k seq
  | none => cmdTmpl p t

/-- The command bytes of a command; an unknown type has empty id and descriptor (40_builder R83, R84). -/
def commandBytes (p : Params) (ctype : CType) (seq : Byte) (payload : List Byte) : List Byte :=
  match ctype with
  | .named t => cmdId p t :: (descriptor p t seq ++ payload)
  | .unknown _ => payload

/-- The type is one of the codes marked unknown (30_encoding R66). -/
def CType.isUnknown : CType → Bool
  | .named _ => false
  | .unknown _ => true

/-! ## Frames (41_framer) -/

/-- The RF-init bytes, which only a first frame has and no checksum covers (41_framer R102, R104). -/
def rfInit : List Byte := [0x00#8, 0xFF#8]

/-- What the checksum of a first frame covers: the bytes from offset 2 up to the checksum (41_framer R102, R104). -/
def firstBody (seq : Byte) (command : List Byte) : List Byte :=
  [0x1B#8, masterAddr, seq, 0x00#8, 0x00#8] ++ command

/-- What the checksum of a later frame covers: the bytes from offset 0 up to the checksum (41_framer R103, R104). -/
def laterBody (seq : Byte) (command : List Byte) : List Byte :=
  [0x1B#8, masterAddr, seq] ++ command

/-- The bytes of a frame, in the layout FIRST selects (41_framer R101). -/
def frameBytes (first : Bool) (seq : Byte) (command : List Byte) : List Byte :=
  match first with
  | true => rfInit ++ firstBody seq command ++ [sum8 (firstBody seq command)] ++ term
  | false => laterBody seq command ++ [sum8 (laterBody seq command)] ++ term

/-- What SEND writes for a frame: wake-up preamble, frame, wake-up postamble (42_serial R124). -/
def wakeWrap (p : Params) (frame : List Byte) : List Byte :=
  List.replicate p.wakePreLen wakeByte ++ frame ++ p.wakePost

/-! ## Verdicts (42_serial) -/

/-- The validator's verdict on a reply (42_serial R121). -/
inductive Verdict
  | positive | negative | invalid
deriving DecidableEq, Repr

/-- The strict check at the offsets ACK_OFFSETS (42_serial R122). -/
def strictVerdict (offsets : List Nat) (reply : List Byte) : Verdict :=
  if offsets.any (fun o => decide (reply.length ≤ o)) then .invalid
  else if offsets.all (fun o => reply[o]? == some ackPos) then .positive
  else if offsets.any (fun o => reply[o]? == some ackNeg) then .negative
  else .invalid

/-- The verdict in the mode CFG.STRICT selects (42_serial R120, R121). -/
def verdict (p : Params) (strict : Bool) (reply : List Byte) : Verdict :=
  match strict with
  | false => .positive
  | true => strictVerdict p.ackOffsets reply

/-- VALIDATE's encoding of a verdict (42_serial R123). -/
def Verdict.byte : Verdict → Byte
  | .positive => 0x01#8
  | .invalid => 0x00#8
  | .negative => 0x02#8

end Sys2Proof.Machine
end

