-- ==== Sys2Proof/Machine/Ops.lean ====
section
/-! DEFINITION. The operations the meanings share: responding, the illegal-request outcome, transport writes and reads,
sending a frame, receiving a reply, going on with a held request, reset, and what the block does next. -/

namespace Sys2Proof.Machine

/-! ## Responses -/

/-- The number of a tag (30_encoding R72). -/
def Tag.code : Tag → BitVec 2
  | .ok => 0#2
  | .error => 1#2
  | .negack => 2#2

/-- `result <- (tag, bytes)`: the request's one response (30_encoding R72). -/
def State.respond (s : State) (tag : Tag) (bytes : List Byte) : State :=
  { s with responses := s.responses ++ [{ tag := tag, bytes := bytes }] }

/-- The failure outcome: a sticky bit is set and the response is `(ERROR, SENTINEL)` (60_exceptions R170, R171). -/
def State.fail (s : State) (b : StatusBit) : State := (s.flag b).respond .error sentinel

/-- `raise Illegal()`: this block's one answer to an illegal request; nothing else changes (60_exceptions R172). -/
def State.raiseIllegal (s : State) : State := s.fail .ill

/-! ## The transport port (20_memory R44, R45) -/

/-- TRANSPORT's answer to write poll `k`: scripted, or a free draw (20_memory R44; log entry 3). -/
def State.txAnswer (s : State) (k : Nat) : Option TxAnswer :=
  match s.txScript[k]? with
  | some a => a
  | none => Config.txDraw k

/-- A read returns at most RX_MAX bytes (20_memory R45; log entry 8). -/
def cutReply (rxMax : Nat) : RxAnswer → RxAnswer
  | .ok reply => .ok (reply.take rxMax)
  | .fail => .fail

/-- TRANSPORT's answer to read poll `k`: scripted, or a free draw (20_memory R45; log entry 3). -/
def State.rxAnswer (s : State) (k : Nat) : Option RxAnswer :=
  match s.rxScript[k]? with
  | some a => a.map (cutReply s.params.rxMax)
  | none => (Config.rxDraw k).map (cutReply s.params.rxMax)

/-- One write poll has been made. -/
def State.tickTx (s : State) : State := { s with txPolls := s.txPolls + 1 }

/-- One read poll has been made. -/
def State.tickRx (s : State) : State := { s with rxPolls := s.rxPolls + 1 }

/-- `WIRE <- WIRE ++ [b]` (20_memory R44). -/
def State.putWire (s : State) (b : Byte) : State := { s with wire := s.wire ++ [b] }

/-- A read has been made and answered (10_state R32). -/
def State.logRead (s : State) (a : RxAnswer) : State := { s with reads := s.reads ++ [a] }

/-- The request waits on TRANSPORT (00_scope R7). -/
def State.hold (s : State) (p : Progress) : State := { s with progress := some p }

/-- No request is in progress. -/
def State.release (s : State) : State := { s with progress := none }

/-! ## Receiving and sending (42_serial) -/

/-- RECV once the read is answered with a reply: the verdict chooses the response (42_serial R128, R129). -/
def State.judge (s : State) (reply : List Byte) : State :=
  match verdict s.params s.strict reply with
  | .positive => s.respond .ok reply
  | .negative => (s.flag .nak).respond .negack reply
  | .invalid => s.fail .inv

/-- RECV: one transport read, held until TRANSPORT answers (42_serial R128). -/
def receive (s : State) : State :=
  match s.rxAnswer s.rxPolls with
  | none => s.tickRx.hold .receiving
  | some .fail => (s.tickRx.logRead .fail).fail .rxf
  | some (.ok reply) => (s.tickRx.logRead (.ok reply)).judge reply

/-- What follows the last write: SEND echoes the frame, EXEC receives (42_serial R124, R131). -/
def afterSend (frame : List Byte) (after : After) (s : State) : State :=
  match after with
  | .respond => s.respond .ok frame
  | .receive => receive s

/-- The writes of SEND, in offset order: the first failure ends it, an unanswered write holds it (42_serial R124, R125;
20_memory R43, R44). -/
def transmit (frame : List Byte) (after : After) : List Byte → State → State
  | [], s => afterSend frame after s
  | b :: rest, s =>
    match s.txAnswer s.txPolls with
    | none => s.tickTx.hold (.sending frame (b :: rest) after)
    | some .ok => transmit frame after rest (s.tickTx.putWire b)
    | some .failSent => (s.tickTx.putWire b).fail .txf
    | some .failLost => s.tickTx.fail .txf

/-- SEND of a frame, and what follows it; an empty frame is an error and writes nothing (42_serial R124). -/
def sendFrame (frame : List Byte) (after : After) (s : State) : State :=
  match frame with
  | [] => s.fail .emp
  | _ :: _ => transmit frame after (wakeWrap s.params frame) s

/-! ## Building and framing -/

/-- The flag BUILD and BUILDFRAME set for an unknown type in strict mode (40_builder R84). -/
def State.noteUnknown (s : State) (ctype : CType) : State :=
  match CType.isUnknown ctype && s.strict with
  | true => s.flag .unk
  | false => s

/-! ## What the block does next -/

/-- Going on with the held request: TRANSPORT is asked again (00_scope R7). -/
def resume (p : Progress) (s : State) : State :=
  match p with
  | .sending frame rest after => transmit frame after rest s
  | .receiving => receive s

/-- Reset (70_reset R190, R191): FIRST 1, CFG `0x00`, STATUS bits 7:1 clear, a request in progress abandoned without a
response; what is on the wire stays. The line is low again afterwards (log entry 5). -/
def State.applyReset (s : State) : State :=
  { s with first := true, cfg := 0x00#8, sticky := 0#7, progress := none, resetLine := false }

/-- What the block does at a step. -/
inductive Activity
  /-- Reset is asserted; it wins over a held request (70_reset R191). -/
  | reset
  /-- The request in progress goes on; no other is accepted (20_memory R48). -/
  | goOn (p : Progress)
  /-- The request at the port is accepted; `rest` are the later ones (20_memory R47). -/
  | accept (r : Request) (rest : List Request)
  /-- The block waits for a request (20_memory R54). -/
  | idle
deriving DecidableEq, Repr

/-- What the block does in this state. -/
def State.activity (s : State) : Activity :=
  match s.resetLine with
  | true => .reset
  | false =>
    match s.progress with
    | some p => .goOn p
    | none =>
      match s.host with
      | r :: rest => .accept r rest
      | [] => .idle

/-- The request at the port has been accepted. -/
def State.setHost (s : State) (rest : List Request) : State := { s with host := rest }

end Sys2Proof.Machine
end

