-- ==== Sys2Proof/Machine/Builder.lean ====
section
/-! DEFINITION. The Frame Builder: BUILD (40_builder). -/

namespace Sys2Proof.Machine

/-- BUILD: the command bytes are the response; UNK for an unknown type in strict mode (40_builder R83, R84). -/
def execBuild (ctype : CType) (seq : Byte) (payload : List Byte) (s : State) : Host.Outcome State Fault Refusal :=
  .next ((s.noteUnknown ctype).respond .ok (commandBytes s.params ctype seq payload))

end Sys2Proof.Machine
end

