-- ==== Sys2Proof/Machine/Control.lean ====
section
/-! DEFINITION. Session and control: SESSION, WRCFG, RDSTAT, CLRSTAT (43_control). -/

namespace Sys2Proof.Machine

/-- SESSION: the next frame is the first of a session (43_control R150). -/
def execSession (s : State) : Host.Outcome State Fault Refusal :=
  .next ((s.setFirst true).respond .ok [])

/-- WRCFG: bit 0 of the immediate is the new STRICT; the other bits are ignored (43_control R151). -/
def execWrcfg (imm8 : Byte) (s : State) : Host.Outcome State Fault Refusal :=
  .next ((s.writeCfg imm8).respond .ok [])

/-- RDSTAT: STATUS and CFG; nothing is cleared (43_control R152). -/
def execRdstat (s : State) : Host.Outcome State Fault Refusal :=
  .next (s.respond .ok [s.status, s.cfgRead])

/-- CLRSTAT: the sticky bits are cleared; bit 0 still mirrors FIRST (43_control R153). -/
def execClrstat (s : State) : Host.Outcome State Fault Refusal :=
  .next (s.clearSticky.respond .ok [])

end Sys2Proof.Machine
end

