-- ==== Sys2Proof/Machine/Framer.lean ====
section
/-! DEFINITION. The Packet Framer: FRAME and BUILDFRAME (41_framer). -/

namespace Sys2Proof.Machine

/-- FRAME: the frame in the layout FIRST selects is the response, and FIRST is cleared (41_framer R101, R105). -/
def execFrame (seq : Byte) (command : List Byte) (s : State) : Host.Outcome State Fault Refusal :=
  .next ((s.respond .ok (frameBytes s.first seq command)).setFirst false)

/-- BUILDFRAME: the command bytes of BUILD, framed with the same sequence number (41_framer R106). -/
def execBuildframe (ctype : CType) (seq : Byte) (payload : List Byte) (s : State) : Host.Outcome State Fault Refusal :=
  .next (((s.noteUnknown ctype).respond .ok
    (frameBytes s.first seq (commandBytes s.params ctype seq payload))).setFirst false)

end Sys2Proof.Machine
end

