-- ==== Sys2Proof/Machine/Serial.lean ====
section
/-! DEFINITION. The Response Validator and the serial encoder: SEND, RECV, VALIDATE, EXEC, REVB (42_serial). -/

namespace Sys2Proof.Machine

/-- SEND: the frame with its wake bytes is written and echoed (42_serial R124 to R126). -/
def execSend (frame : List Byte) (s : State) : Host.Outcome State Fault Refusal :=
  .next (sendFrame frame .respond s)

/-- RECV: one transport read, judged in the current mode (42_serial R128, R129). -/
def execRecv (s : State) : Host.Outcome State Fault Refusal :=
  .next (receive s)

/-- VALIDATE: the verdict as one byte; no flag is set and the transport is not touched (42_serial R123). -/
def execValidate (reply : List Byte) (s : State) : Host.Outcome State Fault Refusal :=
  .next (s.respond .ok [(verdict s.params s.strict reply).byte])

/-- EXEC: a CmdW command is built, framed and sent, and its reply received; FIRST is cleared as soon as the frame is built
(42_serial R131; 70_reset R193). -/
def execExec (seq : Byte) (s : State) : Host.Outcome State Fault Refusal :=
  .next (sendFrame (frameBytes s.first seq (commandBytes s.params (.named .cmdW) seq [])) .receive (s.setFirst false))

/-- REVB: every byte with its bits reversed (42_serial R133). -/
def execRevb (bytes : List Byte) (s : State) : Host.Outcome State Fault Refusal :=
  .next (s.respond .ok (bytes.map rev8))

end Sys2Proof.Machine
end

