-- ==== Sys2Proof/Machine/Dispatch.lean ====
section
/-! DEFINITION. One arm per constructor of Instr, each one call of its meaning (30_encoding R65). -/

namespace Sys2Proof.Machine

def exec (i : Instr) (s : State) : Host.Outcome State Fault Refusal :=
  match i with
  | .build ctype seq payload => Sys2Proof.Machine.execBuild ctype seq payload s
  | .frame seq command => Sys2Proof.Machine.execFrame seq command s
  | .buildframe ctype seq payload => Sys2Proof.Machine.execBuildframe ctype seq payload s
  | .send frame => Sys2Proof.Machine.execSend frame s
  | .recv => Sys2Proof.Machine.execRecv s
  | .validate reply => Sys2Proof.Machine.execValidate reply s
  | .exec seq => Sys2Proof.Machine.execExec seq s
  | .revb bytes => Sys2Proof.Machine.execRevb bytes s
  | .session => Sys2Proof.Machine.execSession s
  | .wrcfg imm8 => Sys2Proof.Machine.execWrcfg imm8 s
  | .rdstat => Sys2Proof.Machine.execRdstat s
  | .clrstat => Sys2Proof.Machine.execClrstat s

end Sys2Proof.Machine
end

