-- ==== Sys2Proof/Machine/Step.lean ====
section
/-! DEFINITION. One step: a request performed as one transaction, or the part of it up to a transport request that is not
answered yet (00_scope R6, R7). -/

namespace Sys2Proof.Machine

/-- One step of the machine. -/
def step (s : State) : Host.Outcome State Fault Refusal :=
  match s.activity with
  | .reset => .next s.applyReset
  | .goOn p => .next (resume p s.release)
  | .idle => .next s
  | .accept r rest =>
    match decode s.params.maxData r with
    | .ok i => exec i (s.setHost rest)
    | .error _ => .next (s.setHost rest).raiseIllegal

/-- HOST issues the operation word whose low `nbits` bits are those of `w`, with an empty data operand, before the requests
it already has, and the block is ready for it: reset is not asserted and no request is in progress (log entry 6). -/
def State.withFetchWord (s : State) (nbits w : Nat) : State :=
  { s with
    host := { word := BitVec.ofNat 32 (w % 2 ^ nbits), data := [] } :: s.host
    progress := none
    resetLine := false }

end Sys2Proof.Machine
end

