-- ==== Sys2Proof/Machine/Assembler.lean ====
section
/-! DEFINITION. HOST's side of requests: the assembler lines of 30_encoding R74, from their characters to the request, and
the pseudo-instructions of 30_encoding R75. Nothing of the block depends on this file. -/

namespace Sys2Proof.Machine

/-- One operand of an assembler line, as a token (30_encoding R74; log entry 13). -/
inductive AsmOperand
  /-- a command-type name -/
  | name (t : CmdType)
  /-- a number, decimal or hexadecimal -/
  | num (n : Nat)
  /-- a data operand between braces, its bytes as numbers -/
  | data (bytes : List Nat)
deriving DecidableEq, Repr

/-- An assembler line: a mnemonic and its operands (30_encoding R74). -/
structure AsmLine where
  op : Op
  operands : List AsmOperand
deriving DecidableEq, Repr

/-- The `<ctype>` operand: a name, or a number 0 to 31 (30_encoding R74). -/
def asmCtype : List AsmOperand → Option (BitVec 5 × List AsmOperand)
  | .name t :: rest => some (t.code, rest)
  | .num n :: rest => if n ≤ 31 then some (BitVec.ofNat 5 n, rest) else none
  | .data _ :: _ => none
  | [] => none

/-- The `<seq>` or `<imm8>` operand: a number 0 to 255 (30_encoding R74). -/
def asmByte : List AsmOperand → Option (Byte × List AsmOperand)
  | .num n :: rest => if n ≤ 255 then some (BitVec.ofNat 8 n, rest) else none
  | .name _ :: _ => none
  | .data _ :: _ => none
  | [] => none

/-- The data operand, omitted when empty; each byte is a number 0 to 255 (30_encoding R74). -/
def asmData : List AsmOperand → Option (List Byte)
  | [] => some []
  | [.data bytes] => if bytes.all (fun n => decide (n ≤ 255)) then some (bytes.map (BitVec.ofNat 8)) else none
  | _ => none

/-- `word = OP | (SEQ << 8) | (CTYPE << 16)` (30_encoding R60). -/
def asmWord (op : BitVec 4) (seq : Byte) (ctype : BitVec 5) : Word :=
  op.setWidth 32 ||| (seq.setWidth 32 <<< 8) ||| (ctype.setWidth 32 <<< 16)

/-- The request a line assembles to; none is an assembly error, which is not an illegal request (30_encoding R74). -/
def assemble (l : AsmLine) : Option Request :=
  match (if l.op.usesCtype then asmCtype l.operands else some (0#5, l.operands)) with
  | none => none
  | some (ctype, afterCtype) =>
    match (if l.op.usesSeq then asmByte afterCtype else some (0#8, afterCtype)) with
    | none => none
    | some (seq, afterSeq) =>
      match (if l.op.takesData then asmData afterSeq else if afterSeq.isEmpty then some [] else none) with
      | none => none
      | some data => some { word := asmWord l.op.code seq ctype, data := data }

/-- The pseudo-instruction `STRICT ON` or `STRICT OFF` (30_encoding R75). -/
def pseudoStrict (on : Bool) : Request :=
  encode (.wrcfg (match on with | true => 0x01#8 | false => 0x00#8))

/-- The first request of the pseudo-instruction `SENDCMD` (30_encoding R75). -/
def pseudoSendcmdFirst (ctype : CType) (seq : Byte) (payload : List Byte) : Request :=
  encode (.buildframe ctype seq payload)

/-- The second request of `SENDCMD`, from the response to the first; none unless that response is OK (30_encoding R75). -/
def pseudoSendcmdThen (built : Response) : Option Request :=
  match built.tag with
  | .ok => some (encode (.send built.bytes))
  | .error => none
  | .negack => none

/-! ### Lines as text (30_encoding R74, R75) -/

/-- A token of a line: a word, a comma, or a brace (log entry 13). -/
inductive AsmToken
  | word (chars : List Char)
  | comma
  | openBrace
  | closeBrace
deriving DecidableEq, Repr

/-- The token that one character makes alone; the braces are given by their codes, 123 and 125. -/
def punctuation (c : Char) : Option AsmToken :=
  if c = ',' then some .comma
  else if c.toNat = 123 then some .openBrace
  else if c.toNat = 125 then some .closeBrace
  else none

/-- The word read so far, whose characters stand in reverse, before the tokens that follow it. -/
def endWord (reversed : List Char) (rest : List AsmToken) : List AsmToken :=
  match reversed with
  | [] => rest
  | _ :: _ => .word reversed.reverse :: rest

/-- The tokens of a line, from the word read so far; blanks and tabs separate words (log entry 13). -/
def asmTokens : List Char → List Char → List AsmToken
  | [], reversed => endWord reversed []
  | c :: cs, reversed =>
    match punctuation c with
    | some t => endWord reversed (t :: asmTokens cs [])
    | none => if c = ' ' ∨ c = '\t' then endWord reversed (asmTokens cs []) else asmTokens cs (c :: reversed)

/-- A hexadecimal digit, in either case. -/
def hexDigit (c : Char) : Option Nat :=
  let n := c.toNat
  if 48 ≤ n ∧ n ≤ 57 then some (n - 48)
  else if 97 ≤ n ∧ n ≤ 102 then some (n - 87)
  else if 65 ≤ n ∧ n ≤ 70 then some (n - 55)
  else none

/-- Digits in a base, most significant first, after the value read so far. -/
def digits (base : Nat) : List Char → Nat → Option Nat
  | [], n => some n
  | c :: cs, n =>
    match hexDigit c with
    | none => none
    | some d => if d < base then digits base cs (n * base + d) else none

/-- A number in decimal or, after `0x`, in hexadecimal, with at least one digit (30_encoding R74). -/
def asmNumber : List Char → Option Nat
  | [] => none
  | ['0', 'x'] => none
  | '0' :: 'x' :: ds => digits 16 ds 0
  | ds => digits 10 ds 0

/-- The name of an operation (30_encoding R65). -/
def opMnemonic : Op → String
  | .build => "BUILD"
  | .frame => "FRAME"
  | .buildframe => "BUILDFRAME"
  | .send => "SEND"
  | .recv => "RECV"
  | .validate => "VALIDATE"
  | .exec => "EXEC"
  | .revb => "REVB"
  | .session => "SESSION"
  | .wrcfg => "WRCFG"
  | .rdstat => "RDSTAT"
  | .clrstat => "CLRSTAT"

/-- The name of a command type (30_encoding R66). -/
def cmdTypeName : CmdType → String
  | .loadText => "LoadText"
  | .loadBitmap => "LoadBitmap"
  | .cmd3 => "Cmd3"
  | .cmd5 => "Cmd5"
  | .cmdR => "CmdR"
  | .cmdW => "CmdW"
  | .cmdX => "CmdX"
  | .cmdT => "CmdT"
  | .clearRam => "ClearRam"

/-- The operation that a word names. -/
def asmOp (w : List Char) : Option Op :=
  [Op.build, .frame, .buildframe, .send, .recv, .validate, .exec, .revb, .session, .wrcfg, .rdstat, .clrstat].find?
    (fun op => decide ((opMnemonic op).toList = w))

/-- A word as an operand: a command-type name or a number; any other word is an assembly error (30_encoding R74). -/
def asmWordOperand (w : List Char) : Option AsmOperand :=
  match [CmdType.loadText, .loadBitmap, .cmd3, .cmd5, .cmdR, .cmdW, .cmdX, .cmdT, .clearRam].find?
      (fun t => decide ((cmdTypeName t).toList = w)) with
  | some t => some (.name t)
  | none => (asmNumber w).map .num

/-- The rest of a data operand after a first byte: `, b` any number of times, then the closing brace. -/
def asmMoreBytes : List AsmToken → Option (List Nat × List AsmToken)
  | .closeBrace :: rest => some ([], rest)
  | .comma :: .word w :: rest =>
    match asmNumber w, asmMoreBytes rest with
    | some n, some (ns, after) => some (n :: ns, after)
    | _, _ => none
  | _ => none

/-- A data operand after its opening brace (30_encoding R74). -/
def asmBytes : List AsmToken → Option (List Nat × List AsmToken)
  | .closeBrace :: rest => some ([], rest)
  | .word w :: rest =>
    match asmNumber w, asmMoreBytes rest with
    | some n, some (ns, after) => some (n :: ns, after)
    | _, _ => none
  | _ => none

/-- One operand at the head of the tokens, and the tokens after it. -/
def asmOperand : List AsmToken → Option (AsmOperand × List AsmToken)
  | .word w :: rest => (asmWordOperand w).map (fun o => (o, rest))
  | .openBrace :: rest => (asmBytes rest).map (fun x => (.data x.1, x.2))
  | _ => none

/-- Operands separated by commas. The first argument bounds how many are read: a line of R74 has at most three. -/
def asmOperands : Nat → List AsmToken → Option (List AsmOperand)
  | 0, _ => none
  | n + 1, ts =>
    match asmOperand ts with
    | none => none
    | some (o, []) => some [o]
    | some (o, .comma :: rest) => (asmOperands n rest).map (fun os => o :: os)
    | some (_, _) => none

/-- All the operands of a line, which may have none. -/
def asmAllOperands : List AsmToken → Option (List AsmOperand)
  | [] => some []
  | t :: ts => asmOperands 3 (t :: ts)

/-- What a line of text asks of HOST: one request, or the two of `SENDCMD`, of which the second is made from the response to
the first by `pseudoSendcmdThen` (30_encoding R74, R75). -/
inductive AsmMeaning
  | request (r : Request)
  | sendcmd (first : Request)
deriving DecidableEq, Repr

/-- A line given as its characters, without its line end; none is an assembly error (30_encoding R74, R75). -/
def assembleText (line : List Char) : Option AsmMeaning :=
  match asmTokens line [] with
  | .word m :: rest =>
    if m = "STRICT".toList then
      if rest = [.word "ON".toList] then some (.request (pseudoStrict true))
      else if rest = [.word "OFF".toList] then some (.request (pseudoStrict false))
      else none
    else
      match asmAllOperands rest with
      | none => none
      | some os =>
        if m = "SENDCMD".toList then (assemble { op := .buildframe, operands := os }).map .sendcmd
        else
          match asmOp m with
          | none => none
          | some op => (assemble { op := op, operands := os }).map .request
  | _ => none

end Sys2Proof.Machine
end

