-- ==== Sys2Proof/WellFormed.lean ====
section
/-! DEFINITION. Which parameters and which instructions are well formed: the ranges of 00_scope R8, the unknown CTYPE
codes of 30_encoding R66, and the bound on data operands of 30_encoding R69, R70. -/

namespace Sys2Proof

/-- The parameters are in the ranges of 00_scope R8 and 40_builder R81. -/
def Params.wf (p : Params) : Bool :=
  [p.cmdTab.loadText, p.cmdTab.loadBitmap, p.cmdTab.cmd3, p.cmdTab.cmd5, p.cmdTab.cmdR, p.cmdTab.cmdX, p.cmdTab.cmdT,
    p.cmdTab.clearRam].all (fun r => decide (r.tmpl.length ≤ 9))
  && decide (p.cmdTab.posLoadBitmap < p.cmdTab.loadBitmap.tmpl.length)
  && !p.ackOffsets.isEmpty
  && decide (1 ≤ p.maxData)
  && decide (1 ≤ p.rxMax)

/-- The CTYPE codes of the nine named types (30_encoding R66). -/
def namedCodes : List Nat := [0, 1, 3, 5, 14, 17, 18, 20, 21]

/-- A code given as unknown is one that 30_encoding R66 marks unknown. -/
def CType.wf : CType → Bool
  | .named _ => true
  | .unknown code => !namedCodes.contains code.toNat

/-- The operands of an instruction are ones a legal request can carry, for MAX_DATA = `maxData` (30_encoding R69). -/
def Instr.wf (maxData : Nat) : Instr → Bool
  | .build ctype _ payload => ctype.wf && decide (payload.length ≤ maxData)
  | .frame _ command => decide (command.length ≤ maxData)
  | .buildframe ctype _ payload => ctype.wf && decide (payload.length ≤ maxData)
  | .send bytes => decide (bytes.length ≤ maxData)
  | .recv => true
  | .validate reply => decide (reply.length ≤ maxData)
  | .exec _ => true
  | .revb bytes => decide (bytes.length ≤ maxData)
  | .session => true
  | .wrcfg _ => true
  | .rdstat => true
  | .clrstat => true

end Sys2Proof
end

