-- ==== Sys2Proof/Safety.lean ====
section
/-! DEFINITION. The terms claims are made in: which instruction a step runs, how the requests are accounted for, and the
invariant of the machine. -/

namespace Sys2Proof.Machine

/-- The instruction the next step runs, if the next thing the block does is to accept a legal request (20_memory R47). -/
def State.nextInstr (s : State) : Option Instr :=
  match s.activity with
  | .accept r _ =>
    match decode s.params.maxData r with
    | .ok i => some i
    | .error _ => none
  | .reset | .goOn _ | .idle => none

/-- How many requests are answered, in progress or still at the port (30_encoding R72; 20_memory R48). -/
def State.requestCount (s : State) : Nat :=
  s.responses.length + (match s.progress with | some _ => 1 | none => 0) + s.host.length

/-- A held request is one that its operation can have reached: a frame is not empty, what is left to write is a non-empty
end of what SEND writes, and when a read follows, the frame is EXEC's and FIRST is clear (42_serial R124, R131). -/
def Progress.sound (s : State) : Progress → Prop
  | .sending frame rest after =>
    frame ≠ [] ∧ rest ≠ [] ∧ rest <:+ wakeWrap s.params frame ∧
      (after = .receive → s.first = false ∧ ∃ first seq, frame = frameBytes first seq [0x57#8, seq])
  | .receiving => True

/-- The invariant of the machine. -/
structure State.Inv (s : State) : Prop where
  /-- The parameters are in their ranges (00_scope R8). -/
  params_wf : s.params.wf = true
  /-- CFG bits 7:1 are 0 (10_state R22). -/
  cfg_reserved : s.cfg.extractLsb' 1 7 = 0#7
  /-- A held request is one its operation can have reached. -/
  progress_sound : ∀ p, s.progress = some p → p.sound s
  /-- The bytes of an ERROR response are the sentinel (30_encoding R72). -/
  error_sentinel : ∀ r ∈ s.responses, r.tag = .error → r.bytes = sentinel
  /-- A read returned at most RX_MAX bytes (20_memory R45). -/
  reads_bounded : ∀ reply, RxAnswer.ok reply ∈ s.reads → reply.length ≤ s.params.rxMax

end Sys2Proof.Machine
end

