-- ==== Sys2Proof/Certificates/Slice0/Obligations.lean ====
section
/-! DEFINITION. What the spec says of the machine, stated for the provers. A record update in a conclusion is the whole
frame: every field it does not name is unchanged. In `sticky`, which holds STATUS bits 7:1, ILL is `0x01`, UNK `0x02`,
TXF `0x04`, RXF `0x08`, NAK `0x10`, INV `0x20`, EMP `0x40` (10_state R24). -/

open Sys2Proof Sys2Proof.Machine

/-! ### Encoding -/

/-- Decoding the request that encodes a well-formed instruction gives that instruction, for every MAX_DATA and every value
of every operand (30_encoding R60 to R68). -/
def Obligations.DecodeOfEncodeIsTheInstruction : Prop :=
  ∀ (maxData : Nat) (i : Instr), i.wf maxData = true → decode maxData (encode i) = .ok i

/-- A request that decodes is the one that encodes what it decodes to, and that instruction is well formed: no legal
request has a bit the decoder drops (30_encoding R60 to R69). -/
def Obligations.LegalRequestIsItsEncoding : Prop :=
  ∀ (maxData : Nat) (r : Request) (i : Instr), decode maxData r = .ok i → encode i = r ∧ i.wf maxData = true

/-- The illegal requests are exactly those of 30_encoding R69: reserved operation, reserved bit (R64), unused field or data
operand not taken (R67), data operand too long. -/
def Obligations.IllegalRequestsAreExactlyThese : Prop :=
  ∀ (maxData : Nat) (w : Word) (d : List Byte),
    (∃ e, decode maxData { word := w, data := d } = .error e) ↔
      w.extractLsb' 0 4 ∈ [0x0#4, 0xD#4, 0xE#4, 0xF#4]
        ∨ w.extractLsb' 21 11 ≠ 0#11 ∨ w.extractLsb' 4 4 ≠ 0#4
        ∨ (w.extractLsb' 0 4 ∉ [0x1#4, 0x3#4] ∧ w.extractLsb' 16 5 ≠ 0#5)
        ∨ (w.extractLsb' 0 4 ∉ [0x1#4, 0x2#4, 0x3#4, 0x7#4, 0xA#4] ∧ w.extractLsb' 8 8 ≠ 0#8)
        ∨ (w.extractLsb' 0 4 ∈ [0x5#4, 0x7#4, 0x9#4, 0xA#4, 0xB#4, 0xC#4] ∧ d ≠ [])
        ∨ maxData < d.length

/-- A few words written out from the encoding of 30_encoding R60 and R65 decode to the instruction they stand for. -/
def Obligations.SampleWordsDecode : Prop :=
  decode 16 { word := 0b00000000000_10001_00000101_0000_0001#32, data := [] } = .ok (.build (.named .cmdW) 5#8 [])
    ∧ decode 16 { word := 0b00000000000_00000_00000101_0000_0010#32, data := [0x57#8, 0x05#8] }
        = .ok (.frame 5#8 [0x57#8, 0x05#8])
    ∧ decode 16 { word := 0b00000000000_00010_00000110_0000_0011#32, data := [0xAA#8] }
        = .ok (.buildframe (.unknown 2#5) 6#8 [0xAA#8])
    ∧ decode 16 { word := 0b00000000000_00000_00000111_0000_0111#32, data := [] } = .ok (.exec 7#8)
    ∧ decode 16 { word := 0b00000000000_00000_11111110_0000_1010#32, data := [] } = .ok (.wrcfg 0xFE#8)
    ∧ decode 16 { word := 0b00000000000_00000_00000000_0000_1011#32, data := [] } = .ok .rdstat

/-- The CTYPE codes of 30_encoding R66, read through BUILD and BUILDFRAME: nine named types, every other code unknown, and
no code illegal. -/
def Obligations.CtypeCodesSelectTheirTypes : Prop :=
  ∀ (maxData : Nat) (c : BitVec 5) (seq : Byte) (d : List Byte), d.length ≤ maxData →
    ∃ ty, decode maxData { word := 0#11 ++ c ++ seq ++ 0#4 ++ 0x1#4, data := d } = .ok (.build ty seq d)
      ∧ decode maxData { word := 0#11 ++ c ++ seq ++ 0#4 ++ 0x3#4, data := d } = .ok (.buildframe ty seq d)
      ∧ (c = 0#5 → ty = .named .loadText) ∧ (c = 1#5 → ty = .named .loadBitmap) ∧ (c = 3#5 → ty = .named .cmd3)
      ∧ (c = 5#5 → ty = .named .cmd5) ∧ (c = 14#5 → ty = .named .cmdR) ∧ (c = 17#5 → ty = .named .cmdW)
      ∧ (c = 18#5 → ty = .named .cmdX) ∧ (c = 20#5 → ty = .named .cmdT) ∧ (c = 21#5 → ty = .named .clearRam)
      ∧ (c ∉ [0#5, 1#5, 3#5, 5#5, 14#5, 17#5, 18#5, 20#5, 21#5] → ty = .unknown c)

/-- The word of 30_encoding R60 written as `OP | (SEQ << 8) | (CTYPE << 16)` is the word with those fields. -/
def Obligations.AssembledWordHasItsFields : Prop :=
  ∀ (op : BitVec 4) (seq : Byte) (ctype : BitVec 5), asmWord op seq ctype = 0#11 ++ ctype ++ seq ++ 0#4 ++ op

/-- An assembler line that assembles gives a request that is legal as soon as its data operand fits, and the decoded
instruction is the line's: its operation, its `<ctype>` (a name, or a number 0 to 31), its `<seq>` or `<imm8>` (a number 0 to
255) and the bytes of its data operand, empty where it is omitted, each just where the operation uses it. A line with such
operands assembles (30_encoding R74). -/
def Obligations.AssembledLinesAreLegal : Prop :=
  (∀ (l : AsmLine) (r : Request) (maxData : Nat), assemble l = some r → r.data.length ≤ maxData →
    ∃ i ctypes seqs datas, decode maxData r = .ok i ∧ i.op = l.op ∧ l.operands = ctypes ++ seqs ++ datas
      ∧ (if l.op.usesCtype = true then
          (∃ t, ctypes = [.name t] ∧ i.ctypeField = t.code) ∨ ∃ n, ctypes = [.num n] ∧ i.ctypeField.toNat = n
        else ctypes = [])
      ∧ (if l.op.usesSeq = true then ∃ n, seqs = [.num n] ∧ i.seqField.toNat = n else seqs = [])
      ∧ ((datas = [] ∧ i.data = [])
        ∨ (l.op.takesData = true ∧ ∃ bytes, datas = [.data bytes] ∧ i.data.map BitVec.toNat = bytes)))
    ∧ ∀ (op : Op) (ctypes seqs datas : List AsmOperand),
      (if op.usesCtype = true then (∃ t, ctypes = [.name t]) ∨ ∃ n ≤ 31, ctypes = [.num n] else ctypes = []) →
      (if op.usesSeq = true then ∃ n ≤ 255, seqs = [.num n] else seqs = []) →
      (datas = [] ∨ (op.takesData = true ∧ ∃ bytes, datas = [.data bytes] ∧ ∀ n ∈ bytes, n ≤ 255)) →
      ∃ r, assemble { op := op, operands := ctypes ++ seqs ++ datas } = some r

/-- The pseudo-instructions of 30_encoding R75. -/
def Obligations.PseudoInstructionsExpand : Prop :=
  pseudoStrict true = { word := 0x0000010A#32, data := [] }
    ∧ pseudoStrict false = { word := 0x0000000A#32, data := [] }
    ∧ (∀ ctype seq payload, pseudoSendcmdFirst ctype seq payload
        = { word := 0#11 ++ ctype.code ++ seq ++ 0#4 ++ 0x3#4, data := payload })
    ∧ (∀ built : Response, built.tag = .ok →
        pseudoSendcmdThen built = some { word := 0x00000004#32, data := built.bytes })
    ∧ (∀ built : Response, built.tag ≠ .ok → pseudoSendcmdThen built = none)

/-! ### The step -/

/-- When reset is not asserted, no request is in progress and the request at the port decodes to an instruction, the step is
that instruction's `exec`, with the request taken from the port (20_memory R47; 30_encoding R68). -/
def Obligations.StepRunsTheDecodedInstruction : Prop :=
  ∀ (s : State) (r : Request) (rest : List Request) (i : Instr), s.resetLine = false → s.progress = none →
    s.host = r :: rest → decode s.params.maxData r = .ok i → step s = exec i { s with host := rest }

/-- An illegal request sets ILL and is answered `(ERROR, SENTINEL)`, and nothing else changes (60_exceptions R172). -/
def Obligations.IllegalRequestOnlySetsIll : Prop :=
  ∀ (s : State) (r : Request) (rest : List Request) (e : Illegal), s.resetLine = false → s.progress = none →
    s.host = r :: rest → decode s.params.maxData r = .error e →
    step s = .next { s with
      host := rest
      sticky := s.sticky ||| 0x01#7
      responses := s.responses ++ [{ tag := .error, bytes := [0x45#8, 0x52#8, 0x52#8, 0x4F#8, 0x52#8] }] }

/-- The reset state, and the waiting for a request after it; reset changes neither CMDTAB nor WIRE and makes no transport
request (70_reset R190). -/
def Obligations.ResetStateWaitsForARequest : Prop :=
  State.reset.first = true ∧ State.reset.cfg = 0x00#8 ∧ State.reset.status = 0x01#8 ∧ State.reset.progress = none
    ∧ masterAddr = 0x01#8
    ∧ (∀ s : State, s.resetLine = true → ∃ t, step s = .next t ∧ t.first = true ∧ t.cfg = 0x00#8 ∧ t.status = 0x01#8
        ∧ t.progress = none ∧ t.params = s.params ∧ t.wire = s.wire ∧ t.reads = s.reads ∧ t.txPolls = s.txPolls
        ∧ t.rxPolls = s.rxPolls)
    ∧ (∀ s : State, s.resetLine = false → s.progress = none → s.host = [] → step s = .next s)

/-- Reset during a held request abandons it: no response, the reset values, and the bytes already written stay
(70_reset R191). -/
def Obligations.ResetAbandonsTheRequest : Prop :=
  ∀ (s : State) (p : Progress), s.resetLine = true → s.progress = some p →
    ∃ t, step s = .next t ∧ t.progress = none ∧ t.responses = s.responses ∧ t.wire = s.wire
      ∧ t.first = true ∧ t.cfg = 0x00#8 ∧ t.status = 0x01#8

/-- While a request is held no other is taken and FIRST, CFG and the instance do not change; it ends with one response, and
until then it has none and sets no flag (20_memory R48; 70_reset R199). How a held request is kept is log entry 4. -/
def Obligations.HeldRequestKeepsThePort : Prop :=
  ∀ (s : State) (p : Progress), s.resetLine = false → s.progress = some p →
    ∃ t, step s = .next t ∧ t.host = s.host ∧ t.first = s.first ∧ t.cfg = s.cfg ∧ t.params = s.params
      ∧ (t.progress ≠ none → t.responses = s.responses ∧ t.sticky = s.sticky)
      ∧ (t.progress = none → ∃ r, t.responses = s.responses ++ [r])

/-- No step stops the machine: no failure is a trap, and every request is answered or held (60_exceptions R171). -/
def Obligations.EveryStepAnswersNext : Prop :=
  ∀ s : State, ∃ t, step s = .next t

/-! ### CFG, STATUS and FIRST -/

/-- `flag(X)` sets its bit alone; a sticky bit stays set until CLRSTAT or reset, which clear all of them
(10_state R26). -/
def Obligations.StickyBitsStayUntilCleared : Prop :=
  (∀ (s : State) (b : StatusBit) (k : Nat),
      (s.flag b).status.getLsbD k = (decide (k = b.pos) || s.status.getLsbD k))
    ∧ (∀ s t : State, s.resetLine = false → s.nextInstr ≠ some .clrstat → step s = .next t →
        ∀ k, 1 ≤ k → s.status.getLsbD k = true → t.status.getLsbD k = true)
    ∧ (∀ s t : State, s.nextInstr = some .clrstat ∨ s.resetLine = true → step s = .next t →
        ∀ k, 1 ≤ k → t.status.getLsbD k = false)

/-- STATUS bit 0 is the current FIRST; RDSTAT returns it, and CLRSTAT leaves it (10_state R25). -/
def Obligations.StatusBitZeroMirrorsFirst : Prop :=
  (∀ s : State, s.status.getLsbD 0 = s.first)
    ∧ (∀ s : State, ∃ t st cf, exec .rdstat s = .next t ∧ t.responses = s.responses ++ [{ tag := .ok, bytes := [st, cf] }]
        ∧ st.getLsbD 0 = s.first)
    ∧ (∀ s : State, ∃ t, exec .clrstat s = .next t ∧ t.status.getLsbD 0 = s.status.getLsbD 0)

/-- Outside reset, only SESSION sets FIRST, and only FRAME, BUILDFRAME and EXEC clear it (10_state R23; 41_framer R105). -/
def Obligations.FirstIsWrittenOnlyByFramesAndSession : Prop :=
  ∀ s t : State, s.resetLine = false → step s = .next t → t.first ≠ s.first →
    (s.nextInstr = some .session ∧ t.first = true)
      ∨ (t.first = false ∧
          ((∃ seq command, s.nextInstr = some (.frame seq command))
            ∨ (∃ ctype seq payload, s.nextInstr = some (.buildframe ctype seq payload))
            ∨ ∃ seq, s.nextInstr = some (.exec seq)))

/-- Outside reset, only WRCFG writes CFG (10_state R22; 43_control R151). -/
def Obligations.CfgIsWrittenOnlyByWrcfg : Prop :=
  ∀ s t : State, s.resetLine = false → step s = .next t → (∀ v, s.nextInstr ≠ some (.wrcfg v)) → t.cfg = s.cfg

/-- No step writes CMDTAB or another parameter of the instance (10_state R27; 00_scope R8). -/
def Obligations.NoStepWritesTheInstance : Prop :=
  ∀ s t : State, step s = .next t → t.params = s.params

/-! ### The Frame Builder -/

/-- BUILD of a named type: id, descriptor, payload; in the descriptor LoadBitmap's and CmdW's placeholder is the sequence
number. Nothing else changes (40_builder R82, R83, R85). -/
def Obligations.BuildOfNamedType : Prop :=
  ∀ (t : CmdType) (seq : Byte) (payload : List Byte) (s : State),
    exec (.build (.named t) seq payload) s = .next { s with
      responses := s.responses ++ [{
        tag := .ok
        bytes := match t with
          | .loadText => [s.params.cmdTab.loadText.id] ++ s.params.cmdTab.loadText.tmpl ++ payload
          | .loadBitmap => [s.params.cmdTab.loadBitmap.id]
              ++ s.params.cmdTab.loadBitmap.tmpl.set s.params.cmdTab.posLoadBitmap seq ++ payload
          | .cmd3 => [s.params.cmdTab.cmd3.id] ++ s.params.cmdTab.cmd3.tmpl ++ payload
          | .cmd5 => [s.params.cmdTab.cmd5.id] ++ s.params.cmdTab.cmd5.tmpl ++ payload
          | .cmdR => [s.params.cmdTab.cmdR.id] ++ s.params.cmdTab.cmdR.tmpl ++ payload
          | .cmdW => [0x57#8, seq] ++ payload
          | .cmdX => [s.params.cmdTab.cmdX.id] ++ s.params.cmdTab.cmdX.tmpl ++ payload
          | .cmdT => [s.params.cmdTab.cmdT.id] ++ s.params.cmdTab.cmdT.tmpl ++ payload
          | .clearRam => [s.params.cmdTab.clearRam.id] ++ s.params.cmdTab.clearRam.tmpl ++ payload }] }

/-- BUILD of an unknown type answers OK with the payload alone, and sets UNK in strict mode; BUILDFRAME of one without a
payload holds only header, checksum and terminator (40_builder R84). -/
def Obligations.BuildOfUnknownType : Prop :=
  ∀ (code : BitVec 5) (seq : Byte) (payload : List Byte) (s : State),
    exec (.build (.unknown code) seq payload) s = .next { s with
        sticky := if s.cfg.getLsbD 0 = true then s.sticky ||| 0x02#7 else s.sticky
        responses := s.responses ++ [{ tag := .ok, bytes := payload }] }
      ∧ exec (.buildframe (.unknown code) seq []) s = .next { s with
          first := false
          sticky := if s.cfg.getLsbD 0 = true then s.sticky ||| 0x02#7 else s.sticky
          responses := s.responses ++ [{
            tag := .ok
            bytes := (if s.first = true then [0x00#8, 0xFF#8, 0x1B#8, 0x01#8, seq, 0x00#8, 0x00#8]
                else [0x1B#8, 0x01#8, seq])
              ++ [BitVec.ofNat 8 (0x1C + seq.toNat), 0x0D#8, 0x0A#8, 0x55#8, 0x00#8] }] }

/-- The layout of BUILD's result for a named type: id, descriptor, payload, and the descriptor is the template but for the
placeholder (40_builder R88). -/
def Obligations.BuildLayoutOfNamedType : Prop :=
  ∀ (t : CmdType) (seq : Byte) (payload : List Byte) (s : State),
    ∃ u cmd, exec (.build (.named t) seq payload) s = .next u ∧ u.responses = s.responses ++ [{ tag := .ok, bytes := cmd }]
      ∧ cmd[0]? = some (cmdId s.params t)
      ∧ (cmd.drop 1).take (cmdTmpl s.params t).length = descriptor s.params t seq
      ∧ cmd.drop (1 + (cmdTmpl s.params t).length) = payload
      ∧ ∀ k, cmdPos s.params t ≠ some k → (descriptor s.params t seq)[k]? = (cmdTmpl s.params t)[k]?

/-- The descriptor of each type: for LoadBitmap and CmdW the template with exactly the placeholder replaced by the sequence
number, for every other type the template (40_builder R82). -/
def Obligations.DescriptorReplacesOnlyThePlaceholder : Prop :=
  ∀ (p : Params) (seq : Byte), p.wf = true →
    descriptor p .cmdW seq = [seq]
      ∧ (descriptor p .loadBitmap seq).length = p.cmdTab.loadBitmap.tmpl.length
      ∧ (descriptor p .loadBitmap seq)[p.cmdTab.posLoadBitmap]? = some seq
      ∧ (∀ k, k ≠ p.cmdTab.posLoadBitmap →
          (descriptor p .loadBitmap seq)[k]? = p.cmdTab.loadBitmap.tmpl[k]?)
      ∧ ∀ t, t ≠ .loadBitmap → t ≠ .cmdW → descriptor p t seq = cmdTmpl p t

/-- BUILD of a named type with the longest payload gives command bytes that are no legal data operand of FRAME
(70_reset R196; 40_builder R86). -/
def Obligations.LongestBuildResultIsNoFrameOperand : Prop :=
  ∀ (s : State) (t : CmdType) (seq seq' : Byte) (payload : List Byte), payload.length = s.params.maxData →
    ∃ u c, exec (.build (.named t) seq payload) s = .next u ∧ u.responses = s.responses ++ [{ tag := .ok, bytes := c }]
      ∧ decode s.params.maxData { word := 0#11 ++ 0#5 ++ seq' ++ 0#4 ++ 0x2#4, data := c } = .error .dataTooLong

/-! ### The Packet Framer -/

/-- FRAME with FIRST = 1: the first-frame layout, and FIRST is cleared; nothing else changes (41_framer R102). -/
def Obligations.FrameOfFirstLayout : Prop :=
  ∀ (seq : Byte) (command : List Byte) (s : State), s.first = true →
    exec (.frame seq command) s = .next { s with
      first := false
      responses := s.responses ++ [{
        tag := .ok
        bytes := [0x00#8, 0xFF#8, 0x1B#8, 0x01#8, seq, 0x00#8, 0x00#8] ++ command
          ++ [BitVec.ofNat 8 (0x1C + seq.toNat + (command.map BitVec.toNat).sum)]
          ++ [0x0D#8, 0x0A#8, 0x55#8, 0x00#8] }] }

/-- FRAME with FIRST = 0: the later-frame layout, and FIRST stays clear; nothing else changes (41_framer R103). -/
def Obligations.FrameOfLaterLayout : Prop :=
  ∀ (seq : Byte) (command : List Byte) (s : State), s.first = false →
    exec (.frame seq command) s = .next { s with
      responses := s.responses ++ [{
        tag := .ok
        bytes := [0x1B#8, 0x01#8, seq] ++ command
          ++ [BitVec.ofNat 8 (0x1C + seq.toNat + (command.map BitVec.toNat).sum)]
          ++ [0x0D#8, 0x0A#8, 0x55#8, 0x00#8] }] }

/-- The checksum bytes of the two layouts agree, and are this sum (41_framer R107). -/
def Obligations.ChecksumsOfTheTwoLayoutsAgree : Prop :=
  ∀ (seq : Byte) (command : List Byte),
    (frameBytes true seq command)[7 + command.length]?
        = some (BitVec.ofNat 8 ((0x1C + seq.toNat + (sum8 command).toNat) % 256))
      ∧ (frameBytes false seq command)[3 + command.length]?
        = some (BitVec.ofNat 8 ((0x1C + seq.toNat + (sum8 command).toNat) % 256))

/-- Recomputing the sum over the documented range of a frame gives its checksum byte (41_framer R108). -/
def Obligations.FrameChecksumRoundTrip : Prop :=
  ∀ (seq : Byte) (command : List Byte),
    (∃ f n, f = frameBytes true seq command ∧ n = f.length - 12 ∧ f[7 + n]? = some (sum8 ((f.take (7 + n)).drop 2)))
      ∧ ∃ f n, f = frameBytes false seq command ∧ n = f.length - 8 ∧ f[3 + n]? = some (sum8 (f.take (3 + n)))

/-- How every frame begins and ends, and how long it is (41_framer R109, R110). -/
def Obligations.FrameBeginningEndAndLength : Prop :=
  ∀ (seq : Byte) (command : List Byte),
    (∀ first, ∃ f, f = frameBytes first seq command ∧ f.drop (f.length - 4) = [0x0D#8, 0x0A#8, 0x55#8, 0x00#8])
      ∧ (frameBytes true seq command).take 4 = [0x00#8, 0xFF#8, 0x1B#8, 0x01#8]
      ∧ (frameBytes false seq command).take 3 = [0x1B#8, 0x01#8, seq]
      ∧ (frameBytes true seq command).length = command.length + 12
      ∧ (frameBytes false seq command).length = command.length + 8

/-- The command bytes and the sequence number can be read back from a frame whose layout is known (41_framer R113). -/
def Obligations.CommandBytesAreRecoverable : Prop :=
  ∀ (seq : Byte) (command : List Byte),
    (∃ f, f = frameBytes true seq command ∧ (f.take (f.length - 5)).drop 7 = command ∧ f[4]? = some seq)
      ∧ ∃ f, f = frameBytes false seq command ∧ (f.take (f.length - 5)).drop 3 = command ∧ f[2]? = some seq

/-- FIRST is cleared when a frame is built, whatever becomes of its transmission, and SEND never touches it
(41_framer R105). -/
def Obligations.FramingClearsFirst : Prop :=
  (∀ seq command s, ∃ t, exec (.frame seq command) s = .next t ∧ t.first = false)
    ∧ (∀ ctype seq payload s, ∃ t, exec (.buildframe ctype seq payload) s = .next t ∧ t.first = false)
    ∧ (∀ seq s, ∃ t, exec (.exec seq) s = .next t ∧ t.first = false)
    ∧ ∀ bytes s, ∃ t, exec (.send bytes) s = .next t ∧ t.first = s.first

/-- BUILDFRAME is BUILD and then FRAME of the bytes BUILD gives, with one response (41_framer R106). -/
def Obligations.BuildframeIsBuildThenFrame : Prop :=
  ∀ (ctype : CType) (seq : Byte) (payload : List Byte) (s : State),
    ∃ built c t, exec (.build ctype seq payload) s = .next built
      ∧ built.responses = s.responses ++ [{ tag := .ok, bytes := c }]
      ∧ exec (.frame seq c) { built with responses := s.responses } = .next t
      ∧ exec (.buildframe ctype seq payload) s = .next t

/-! ### Validator and serial encoder -/

/-- SEND with every write answered ok: wake preamble, frame and postamble are on the wire in this order, and the response is
the frame itself; nothing is read (42_serial R126, R124). -/
def Obligations.SendWritesAndEchoes : Prop :=
  ∀ (frame w : List Byte) (s : State), frame ≠ [] →
    w = List.replicate s.params.wakePreLen 0x55#8 ++ frame ++ s.params.wakePost →
    (∀ j < w.length, s.txAnswer (s.txPolls + j) = some .ok) →
    exec (.send frame) s = .next { s with
      wire := s.wire ++ w
      txPolls := s.txPolls + w.length
      responses := s.responses ++ [{ tag := .ok, bytes := frame }] }

/-- A failed write ends SEND: the bytes before it are on the wire, the failing one is or is not, TXF is set and the response
is the sentinel (42_serial R125). -/
def Obligations.SendEndsAtTheFirstFailedWrite : Prop :=
  ∀ (frame w : List Byte) (k : Nat) (s : State), frame ≠ [] →
    w = List.replicate s.params.wakePreLen 0x55#8 ++ frame ++ s.params.wakePost → k < w.length →
    (∀ j < k, s.txAnswer (s.txPolls + j) = some .ok) →
    (s.txAnswer (s.txPolls + k) = some .failLost →
      exec (.send frame) s = .next { s with
        wire := s.wire ++ w.take k
        txPolls := s.txPolls + k + 1
        sticky := s.sticky ||| 0x04#7
        responses := s.responses ++ [{ tag := .error, bytes := [0x45#8, 0x52#8, 0x52#8, 0x4F#8, 0x52#8] }] })
      ∧ (s.txAnswer (s.txPolls + k) = some .failSent →
        exec (.send frame) s = .next { s with
          wire := s.wire ++ w.take (k + 1)
          txPolls := s.txPolls + k + 1
          sticky := s.sticky ||| 0x04#7
          responses := s.responses ++ [{ tag := .error, bytes := [0x45#8, 0x52#8, 0x52#8, 0x4F#8, 0x52#8] }] })

/-- SEND, RECV and EXEC wait where TRANSPORT has not answered: no response and no flag, and the rest of the transmission is
kept. EXEC waits at a write as SEND does and at its read as RECV does, with FIRST already clear (00_scope R7;
70_reset R200; how it is kept is log entry 4). -/
def Obligations.UnansweredTransportRequestIsHeld : Prop :=
  (∀ (frame w : List Byte) (k : Nat) (s : State), frame ≠ [] →
      w = List.replicate s.params.wakePreLen 0x55#8 ++ frame ++ s.params.wakePost → k < w.length →
      (∀ j < k, s.txAnswer (s.txPolls + j) = some .ok) → s.txAnswer (s.txPolls + k) = none →
      exec (.send frame) s = .next { s with
        wire := s.wire ++ w.take k
        txPolls := s.txPolls + k + 1
        progress := some (.sending frame (w.drop k) .respond) })
    ∧ (∀ s : State, s.rxAnswer s.rxPolls = none →
      exec .recv s = .next { s with rxPolls := s.rxPolls + 1, progress := some .receiving })
    ∧ ∀ (seq chk : Byte) (f w : List Byte) (s : State), chk = BitVec.ofNat 8 (0x73 + 2 * seq.toNat) →
      f = (if s.first = true then [0x00#8, 0xFF#8, 0x1B#8, 0x01#8, seq, 0x00#8, 0x00#8] else [0x1B#8, 0x01#8, seq])
        ++ [0x57#8, seq, chk, 0x0D#8, 0x0A#8, 0x55#8, 0x00#8] →
      w = List.replicate s.params.wakePreLen 0x55#8 ++ f ++ s.params.wakePost →
      (∀ k < w.length, (∀ j < k, s.txAnswer (s.txPolls + j) = some .ok) → s.txAnswer (s.txPolls + k) = none →
          exec (.exec seq) s = .next { s with
            first := false
            wire := s.wire ++ w.take k
            txPolls := s.txPolls + k + 1
            progress := some (.sending f (w.drop k) .receive) })
        ∧ ((∀ j < w.length, s.txAnswer (s.txPolls + j) = some .ok) → s.rxAnswer s.rxPolls = none →
          exec (.exec seq) s = .next { s with
            first := false
            wire := s.wire ++ w
            txPolls := s.txPolls + w.length
            rxPolls := s.rxPolls + 1
            progress := some .receiving })

/-- SEND of an empty frame writes nothing, not even wake bytes: EMP and the sentinel (42_serial R124). -/
def Obligations.SendOfEmptyFrame : Prop :=
  ∀ s : State, exec (.send []) s = .next { s with
    sticky := s.sticky ||| 0x40#7
    responses := s.responses ++ [{ tag := .error, bytes := [0x45#8, 0x52#8, 0x52#8, 0x4F#8, 0x52#8] }] }

/-- RECV with a failed read: RXF and the sentinel (42_serial R128). -/
def Obligations.RecvOfFailedRead : Prop :=
  ∀ s : State, s.rxAnswer s.rxPolls = some .fail → exec .recv s = .next { s with
    rxPolls := s.rxPolls + 1
    reads := s.reads ++ [.fail]
    sticky := s.sticky ||| 0x08#7
    responses := s.responses ++ [{ tag := .error, bytes := [0x45#8, 0x52#8, 0x52#8, 0x4F#8, 0x52#8] }] }

/-- RECV in permissive mode returns whatever was read (42_serial R120, R128). -/
def Obligations.RecvInPermissiveMode : Prop :=
  ∀ (s : State) (reply : List Byte), s.cfg.getLsbD 0 = false → s.rxAnswer s.rxPolls = some (.ok reply) →
    exec .recv s = .next { s with
      rxPolls := s.rxPolls + 1
      reads := s.reads ++ [.ok reply]
      responses := s.responses ++ [{ tag := .ok, bytes := reply }] }

/-- RECV in strict mode: OK for a positive reply, NEGACK with the reply and NAK for a negative one, the sentinel and INV for
one that is neither (42_serial R129, R122). -/
def Obligations.RecvInStrictMode : Prop :=
  ∀ (s : State) (reply : List Byte), s.cfg.getLsbD 0 = true → s.rxAnswer s.rxPolls = some (.ok reply) →
    ((∀ o ∈ s.params.ackOffsets, reply[o]? = some 0x06#8) →
        exec .recv s = .next { s with
          rxPolls := s.rxPolls + 1
          reads := s.reads ++ [.ok reply]
          responses := s.responses ++ [{ tag := .ok, bytes := reply }] })
      ∧ ((∀ o ∈ s.params.ackOffsets, o < reply.length) → (∃ o ∈ s.params.ackOffsets, reply[o]? ≠ some 0x06#8) →
          (∃ o ∈ s.params.ackOffsets, reply[o]? = some 0x15#8) →
          exec .recv s = .next { s with
            rxPolls := s.rxPolls + 1
            reads := s.reads ++ [.ok reply]
            sticky := s.sticky ||| 0x10#7
            responses := s.responses ++ [{ tag := .negack, bytes := reply }] })
      ∧ (((∃ o ∈ s.params.ackOffsets, reply.length ≤ o) ∨
            ((∃ o ∈ s.params.ackOffsets, reply[o]? ≠ some 0x06#8) ∧
              ∀ o ∈ s.params.ackOffsets, reply[o]? ≠ some 0x15#8)) →
          exec .recv s = .next { s with
            rxPolls := s.rxPolls + 1
            reads := s.reads ++ [.ok reply]
            sticky := s.sticky ||| 0x20#7
            responses := s.responses ++ [{ tag := .error, bytes := [0x45#8, 0x52#8, 0x52#8, 0x4F#8, 0x52#8] }] })

/-- The strict verdict: INVALID for a reply too short, POSITIVE when every offset holds 0x06, NEGATIVE when not and some
offset holds 0x15, else INVALID; so an empty reply is INVALID (42_serial R122). -/
def Obligations.StrictVerdictByMarkers : Prop :=
  ∀ (offsets : List Nat) (reply : List Byte),
    ((∃ o ∈ offsets, reply.length ≤ o) → strictVerdict offsets reply = .invalid)
      ∧ ((∀ o ∈ offsets, o < reply.length) →
        ((∀ o ∈ offsets, reply[o]? = some 0x06#8) → strictVerdict offsets reply = .positive)
          ∧ ((∃ o ∈ offsets, reply[o]? ≠ some 0x06#8) → (∃ o ∈ offsets, reply[o]? = some 0x15#8) →
              strictVerdict offsets reply = .negative)
          ∧ ((∃ o ∈ offsets, reply[o]? ≠ some 0x06#8) → (∀ o ∈ offsets, reply[o]? ≠ some 0x15#8) →
              strictVerdict offsets reply = .invalid))
      ∧ (offsets ≠ [] → strictVerdict offsets [] = .invalid)

/-- VALIDATE answers with one byte, sets no flag and does not touch the transport: 01 for POSITIVE, 02 for NEGATIVE, 00 for
INVALID (42_serial R123, R121, R122). -/
def Obligations.ValidateAnswersTheVerdict : Prop :=
  ∀ (reply : List Byte) (s : State),
    exec (.validate reply) s = .next { s with
      responses := s.responses ++ [{
        tag := .ok
        bytes :=
          if s.cfg.getLsbD 0 = false then [0x01#8]
          else if ∃ o ∈ s.params.ackOffsets, reply.length ≤ o then [0x00#8]
          else if ∀ o ∈ s.params.ackOffsets, reply[o]? = some 0x06#8 then [0x01#8]
          else if ∃ o ∈ s.params.ackOffsets, reply[o]? = some 0x15#8 then [0x02#8]
          else [0x00#8] }] }

/-- In permissive mode, which is the mode after reset, the validator accepts every response (42_serial R120). -/
def Obligations.PermissiveModeAcceptsEverything : Prop :=
  State.reset.cfg.getLsbD 0 = false
    ∧ ∀ (reply : List Byte) (s : State), s.cfg.getLsbD 0 = false →
      exec (.validate reply) s
        = .next { s with responses := s.responses ++ [{ tag := .ok, bytes := [0x01#8] }] }

/-- EXEC whose writes are all answered ok goes on as RECV does, from the state with the CmdW frame on the wire and FIRST
clear (42_serial R131). -/
def Obligations.ExecSendsThenReceives : Prop :=
  ∀ (seq k : Byte) (f w : List Byte) (s : State), k = BitVec.ofNat 8 (0x73 + 2 * seq.toNat) →
    f = (if s.first = true then [0x00#8, 0xFF#8, 0x1B#8, 0x01#8, seq, 0x00#8, 0x00#8] else [0x1B#8, 0x01#8, seq])
      ++ [0x57#8, seq, k, 0x0D#8, 0x0A#8, 0x55#8, 0x00#8] →
    w = List.replicate s.params.wakePreLen 0x55#8 ++ f ++ s.params.wakePost →
    (∀ j < w.length, s.txAnswer (s.txPolls + j) = some .ok) →
    exec (.exec seq) s
      = exec .recv { s with first := false, wire := s.wire ++ w, txPolls := s.txPolls + w.length }

/-- EXEC in permissive mode with every write and the read answered ok returns the reply (42_serial R131). -/
def Obligations.ExecReturnsTheReply : Prop :=
  ∀ (seq k : Byte) (f w reply : List Byte) (s : State), k = BitVec.ofNat 8 (0x73 + 2 * seq.toNat) →
    f = (if s.first = true then [0x00#8, 0xFF#8, 0x1B#8, 0x01#8, seq, 0x00#8, 0x00#8] else [0x1B#8, 0x01#8, seq])
      ++ [0x57#8, seq, k, 0x0D#8, 0x0A#8, 0x55#8, 0x00#8] →
    w = List.replicate s.params.wakePreLen 0x55#8 ++ f ++ s.params.wakePost →
    (∀ j < w.length, s.txAnswer (s.txPolls + j) = some .ok) →
    s.cfg.getLsbD 0 = false → s.rxAnswer s.rxPolls = some (.ok reply) →
    exec (.exec seq) s = .next { s with
      first := false
      wire := s.wire ++ w
      txPolls := s.txPolls + w.length
      rxPolls := s.rxPolls + 1
      reads := s.reads ++ [.ok reply]
      responses := s.responses ++ [{ tag := .ok, bytes := reply }] }

/-- EXEC whose send fails makes no read, answers the sentinel, and has cleared FIRST all the same; the failing byte is on the
line or not (42_serial R131; 70_reset R193; 20_memory R44). -/
def Obligations.ExecWithFailedSendReadsNothing : Prop :=
  ∀ (seq chk : Byte) (f w : List Byte) (k : Nat) (s : State), chk = BitVec.ofNat 8 (0x73 + 2 * seq.toNat) →
    f = (if s.first = true then [0x00#8, 0xFF#8, 0x1B#8, 0x01#8, seq, 0x00#8, 0x00#8] else [0x1B#8, 0x01#8, seq])
      ++ [0x57#8, seq, chk, 0x0D#8, 0x0A#8, 0x55#8, 0x00#8] →
    w = List.replicate s.params.wakePreLen 0x55#8 ++ f ++ s.params.wakePost → k < w.length →
    (∀ j < k, s.txAnswer (s.txPolls + j) = some .ok) →
    (s.txAnswer (s.txPolls + k) = some .failLost →
      exec (.exec seq) s = .next { s with
        first := false
        wire := s.wire ++ w.take k
        txPolls := s.txPolls + k + 1
        sticky := s.sticky ||| 0x04#7
        responses := s.responses ++ [{ tag := .error, bytes := [0x45#8, 0x52#8, 0x52#8, 0x4F#8, 0x52#8] }] })
      ∧ (s.txAnswer (s.txPolls + k) = some .failSent →
        exec (.exec seq) s = .next { s with
          first := false
          wire := s.wire ++ w.take (k + 1)
          txPolls := s.txPolls + k + 1
          sticky := s.sticky ||| 0x04#7
          responses := s.responses ++ [{ tag := .error, bytes := [0x45#8, 0x52#8, 0x52#8, 0x4F#8, 0x52#8] }] })

/-- REVB reverses the bits of every byte in place, and applied to its own result gives the bytes back
(42_serial R132, R133). -/
def Obligations.RevbReversesEveryByte : Prop :=
  ∀ (bytes : List Byte) (s : State),
    ∃ y, exec (.revb bytes) s = .next { s with responses := s.responses ++ [{ tag := .ok, bytes := y }] }
      ∧ y.length = bytes.length
      ∧ (∀ (j : Nat) (a b : Byte), bytes[j]? = some a → y[j]? = some b → ∀ k < 8, b.getLsbD k = a.getLsbD (7 - k))
      ∧ ∀ u, exec (.revb y) u = .next { u with responses := u.responses ++ [{ tag := .ok, bytes := bytes }] }

/-! ### Session and control -/

/-- SESSION sets FIRST and nothing else (43_control R150). -/
def Obligations.SessionSetsFirst : Prop :=
  ∀ s : State, exec .session s
    = .next { s with first := true, responses := s.responses ++ [{ tag := .ok, bytes := [] }] }

/-- After SESSION the next FRAME has the first-frame layout, and the one after it the later layout
(43_control R150; 41_framer R109). -/
def Obligations.FramesAfterSession : Prop :=
  ∀ (s : State) (seq1 seq2 : Byte) (c1 c2 : List Byte),
    ∃ t u v f1 f2, exec .session s = .next t ∧ exec (.frame seq1 c1) t = .next u ∧ exec (.frame seq2 c2) u = .next v
      ∧ v.responses = s.responses
        ++ [{ tag := .ok, bytes := [] }, { tag := .ok, bytes := f1 }, { tag := .ok, bytes := f2 }]
      ∧ f1.take 5 = [0x00#8, 0xFF#8, 0x1B#8, 0x01#8, seq1] ∧ f2.take 3 = [0x1B#8, 0x01#8, seq2]

/-- WRCFG writes bit 0 of its immediate to STRICT and ignores the others (43_control R151). -/
def Obligations.WrcfgWritesStrict : Prop :=
  ∀ (v : Byte) (s : State), exec (.wrcfg v) s = .next { s with
    cfg := if v.getLsbD 0 = true then 0x01#8 else 0x00#8
    responses := s.responses ++ [{ tag := .ok, bytes := [] }] }

/-- RDSTAT returns STATUS, whose bit 0 is FIRST, and CFG, whose bits 7:1 read as 0; nothing is cleared
(43_control R152; 10_state R22, R25). -/
def Obligations.RdstatReadsStatusAndCfg : Prop :=
  ∀ s : State, exec .rdstat s = .next { s with
    responses := s.responses ++ [{
      tag := .ok
      bytes := [s.sticky ++ BitVec.ofBool s.first, 0#7 ++ BitVec.ofBool (s.cfg.getLsbD 0)] }] }

/-- CLRSTAT clears STATUS bits 7:1 and nothing else (43_control R153). -/
def Obligations.ClrstatClearsStickyBits : Prop :=
  ∀ s : State, exec .clrstat s
    = .next { s with sticky := 0#7, responses := s.responses ++ [{ tag := .ok, bytes := [] }] }

/-! ### The whole machine -/

/-- Over any run without a reset, the requests answered, in progress and at the port are the same in number: every request,
legal or illegal, gets one response and only one (30_encoding R72; 20_memory R48). -/
def Obligations.EveryRequestGetsOneResponse : Prop :=
  ∀ (n : Nat) (s : State), s.resetLine = false →
    ∃ t, Host.Core.run Sys2Proof.core n s = .next t ∧ t.requestCount = s.requestCount ∧ s.responses <+: t.responses

/-- A step only appends to WIRE, to the reads made and to the responses, and to the last at most one (20_memory R47). -/
def Obligations.OutputsOnlyGrow : Prop :=
  ∀ s t : State, step s = .next t →
    s.wire <+: t.wire ∧ s.reads <+: t.reads ∧ s.responses <+: t.responses ∧ t.responses.length ≤ s.responses.length + 1

/-- No operation other than SEND, RECV and EXEC touches the transport, and each of those others is answered at once
(20_memory R55; 00_scope R7). -/
def Obligations.OnlySendRecvExecTouchTheTransport : Prop :=
  ∀ (i : Instr) (s : State), i.op ∉ [Op.send, Op.recv, Op.exec] →
    ∃ t r, exec i s = .next t ∧ t.responses = s.responses ++ [r] ∧ t.wire = s.wire ∧ t.reads = s.reads
      ∧ t.txPolls = s.txPolls ∧ t.rxPolls = s.rxPolls ∧ t.progress = s.progress ∧ t.host = s.host

/-- Of the state, only FIRST decides the bytes FRAME, BUILDFRAME and EXEC put in a frame, CMDTAB being constant. For each
value of FIRST and each sequence number there is one frame that EXEC transmits in every such state, between that state's wake
bytes: what it puts on the wire is a beginning of that transmission, all of it where every write is answered ok, and what it
keeps while it waits is that frame and the rest (10_state R30; the keeping is log entry 4). -/
def Obligations.FrameBytesDependOnFirstAlone : Prop :=
  (∀ (i : Instr) (s u : State), i.op ∈ [Op.frame, Op.buildframe] → s.first = u.first →
    s.params.cmdTab = u.params.cmdTab →
    ∃ t v r, exec i s = .next t ∧ exec i u = .next v
      ∧ t.responses = s.responses ++ [r] ∧ v.responses = u.responses ++ [r])
    ∧ ∀ (first : Bool) (seq : Byte), ∃ f, ∀ (s : State) (w : List Byte), s.first = first →
      w = List.replicate s.params.wakePreLen 0x55#8 ++ f ++ s.params.wakePost →
      ∃ t, ∃ k ≤ w.length, exec (.exec seq) s = .next t ∧ t.wire = s.wire ++ w.take k
        ∧ ((∀ j < w.length, s.txAnswer (s.txPolls + j) = some .ok) → k = w.length)
        ∧ (t.progress = s.progress ∨ t.progress = some .receiving
          ∨ t.progress = some (.sending f (w.drop k) .receive))

/-- A step outside reset and CLRSTAT sets at most one sticky bit; an ERROR response is the sentinel, with one of ILL, TXF,
RXF, INV and EMP set, and a NEGACK response comes in strict mode only, with NAK set (60_exceptions R170, R173). -/
def Obligations.FailuresAreFlagged : Prop :=
  ∀ s t : State, s.resetLine = false → step s = .next t →
    (s.nextInstr ≠ some .clrstat → t.sticky = s.sticky ∨ ∃ b, t.sticky = s.sticky ||| stickyMask b)
      ∧ (∀ r, t.responses = s.responses ++ [r] → r.tag = .error →
          r.bytes = sentinel ∧ ∃ b ∈ [StatusBit.ill, .txf, .rxf, .inv, .emp], t.sticky = s.sticky ||| stickyMask b)
      ∧ (∀ r, t.responses = s.responses ++ [r] → r.tag = .negack →
          s.cfg.getLsbD 0 = true ∧ t.sticky = s.sticky ||| stickyMask .nak)

/-- The invariant holds of the state right after reset. The ranges of the parameters are those of 00_scope R8; that the
instance is `Config.params` is log entry 1. -/
def Obligations.InvariantAtReset : Prop :=
  State.reset.Inv

/-- Every step keeps the invariant: parameters in range, CFG bits 7:1 zero, a held request one its operation can have
reached, ERROR responses the sentinel, reads within RX_MAX (10_state R22; 30_encoding R72; 20_memory R45;
42_serial R124, R131). The part about a held request is of the model's own field (log entry 4). -/
def Obligations.EveryStepKeepsTheInvariant : Prop :=
  ∀ s t : State, s.Inv → step s = .next t → t.Inv

/-- A held request goes on where it stopped: what is left of SEND's writes, answered ok, completes it with the echo; EXEC
then receives as RECV does; a held read is asked for again. If a later write fails, SEND or EXEC ends there with the bytes
before it on the wire, the failing one there or not, TXF and the sentinel, and no read; if a later write is not answered, the
request waits there (00_scope R7; 20_memory R44, R47; 42_serial R125; the keeping is log entry 4). -/
def Obligations.HeldRequestGoesOnWhereItStopped : Prop :=
  ∀ s : State, s.resetLine = false →
    (∀ frame rest, s.progress = some (.sending frame rest .respond) →
        (∀ j < rest.length, s.txAnswer (s.txPolls + j) = some .ok) →
        step s = .next { s with
          progress := none
          wire := s.wire ++ rest
          txPolls := s.txPolls + rest.length
          responses := s.responses ++ [{ tag := .ok, bytes := frame }] })
      ∧ (∀ frame rest, s.progress = some (.sending frame rest .receive) →
        (∀ j < rest.length, s.txAnswer (s.txPolls + j) = some .ok) →
        step s = exec .recv { s with
          progress := none
          wire := s.wire ++ rest
          txPolls := s.txPolls + rest.length })
      ∧ (s.progress = some .receiving → step s = exec .recv { s with progress := none })
      ∧ ∀ frame rest after, s.progress = some (.sending frame rest after) →
        ∀ k < rest.length, (∀ j < k, s.txAnswer (s.txPolls + j) = some .ok) →
        (s.txAnswer (s.txPolls + k) = some .failLost →
          step s = .next { s with
            progress := none
            wire := s.wire ++ rest.take k
            txPolls := s.txPolls + k + 1
            sticky := s.sticky ||| 0x04#7
            responses := s.responses ++ [{ tag := .error, bytes := [0x45#8, 0x52#8, 0x52#8, 0x4F#8, 0x52#8] }] })
          ∧ (s.txAnswer (s.txPolls + k) = some .failSent →
            step s = .next { s with
              progress := none
              wire := s.wire ++ rest.take (k + 1)
              txPolls := s.txPolls + k + 1
              sticky := s.sticky ||| 0x04#7
              responses := s.responses ++ [{ tag := .error, bytes := [0x45#8, 0x52#8, 0x52#8, 0x4F#8, 0x52#8] }] })
          ∧ (s.txAnswer (s.txPolls + k) = none →
            step s = .next { s with
              progress := some (.sending frame (rest.drop k) after)
              wire := s.wire ++ rest.take k
              txPolls := s.txPolls + k + 1 })

/-- A request whose transport request is not answered is held for as long as it is not: for any number of steps nothing
changes but the count of polls, and reset ends it (70_reset R200, R191). That a step asks once more and counts the poll, and
how the request is kept, are the model's choices (log entries 3 and 4). -/
def Obligations.SilentTransportHoldsTheRequest : Prop :=
  ∀ (n : Nat) (s : State), s.resetLine = false →
    (∀ frame b rest after, s.progress = some (.sending frame (b :: rest) after) →
        (∀ j < n, s.txAnswer (s.txPolls + j) = none) →
        Host.Core.run Sys2Proof.core n s = .next { s with txPolls := s.txPolls + n })
      ∧ (s.progress = some .receiving → (∀ j < n, s.rxAnswer (s.rxPolls + j) = none) →
        Host.Core.run Sys2Proof.core n s = .next { s with rxPolls := s.rxPolls + n })
      ∧ ∃ t, step { s with resetLine := true } = .next t ∧ t.progress = none
end

