-- ==== Sys2Proof/Laws/Assembler.lean ====
section
/-! SUPPORT. What each operand reader of the assembler can answer, and when a line assembles (30_encoding R74). -/

namespace Sys2Proof.Machine

/-- A `<ctype>` operand is a name, or a number 0 to 31. -/
theorem asmCtype_eq_some_iff (os rest : List AsmOperand) (c : BitVec 5) :
    asmCtype os = some (c, rest) ↔
      (∃ t, os = .name t :: rest ∧ c = t.code) ∨ ∃ n ≤ 31, os = .num n :: rest ∧ c = BitVec.ofNat 5 n := by
  rcases os with _ | ⟨o, os⟩
  · simp [asmCtype]
  · cases o <;> simp [asmCtype] <;> grind

/-- A `<seq>` or `<imm8>` operand is a number 0 to 255. -/
theorem asmByte_eq_some_iff (os rest : List AsmOperand) (b : Byte) :
    asmByte os = some (b, rest) ↔ ∃ n ≤ 255, os = .num n :: rest ∧ b = BitVec.ofNat 8 n := by
  rcases os with _ | ⟨o, os⟩
  · simp [asmByte]
  · cases o <;> simp [asmByte]; grind

/-- A data operand is omitted, or numbers 0 to 255 between braces at the end of the line. -/
theorem asmData_eq_some_iff (os : List AsmOperand) (d : List Byte) :
    asmData os = some d ↔
      (os = [] ∧ d = []) ∨ ∃ bytes, os = [.data bytes] ∧ (∀ n ∈ bytes, n ≤ 255) ∧ d = bytes.map (BitVec.ofNat 8) := by
  rcases os with _ | ⟨o, _ | ⟨o', os⟩⟩
  · simp [asmData]
  · cases o <;> simp [asmData]; grind
  · cases o <;> simp [asmData]

/-- A line assembles just when its operands are, in this order, those its operation uses. -/
theorem assemble_eq_some_iff (l : AsmLine) (r : Request) :
    assemble l = some r ↔ ∃ c afterCtype q afterSeq d,
      (if l.op.usesCtype = true then asmCtype l.operands = some (c, afterCtype)
        else c = 0#5 ∧ afterCtype = l.operands)
      ∧ (if l.op.usesSeq = true then asmByte afterCtype = some (q, afterSeq) else q = 0#8 ∧ afterSeq = afterCtype)
      ∧ (if l.op.takesData = true then asmData afterSeq = some d else afterSeq = [] ∧ d = [])
      ∧ r = { word := asmWord l.op.code q c, data := d } := by
  unfold assemble
  constructor
  · intro h
    split at h
    · cases h
    · rename_i c afterCtype hc
      split at h
      · cases h
      · rename_i q afterSeq hq
        split at h
        · cases h
        · rename_i d hd
          refine ⟨c, afterCtype, q, afterSeq, d, ?_, ?_, ?_, (Option.some.inj h).symm⟩
          all_goals split_ifs <;> simp_all
  · rintro ⟨c, afterCtype, q, afterSeq, d, hc, hq, hd, rfl⟩
    split_ifs at hc hq hd <;> simp_all

end Sys2Proof.Machine
end

