-- ==== Sys2Proof/Laws/Decode.lean ====
section
/-! SUPPORT. The small lemmas of the decoder and the encoder: the fields of a word made of fields, and the code tables read
both ways. -/

namespace Sys2Proof

/-! ## Fields of a word made of fields -/

@[simp] theorem Word.op_ofFields (op : BitVec 4) (seq : Byte) (ctype : BitVec 5) :
    Word.op (Word.ofFields op seq ctype) = op :=
  BitVec.extractLsb'_append_eq_right

@[simp] theorem Word.rsv0_ofFields (op : BitVec 4) (seq : Byte) (ctype : BitVec 5) :
    Word.rsv0 (Word.ofFields op seq ctype) = 0#4 :=
  (BitVec.extractLsb'_append_eq_of_le (by decide)).trans BitVec.extractLsb'_append_eq_right

@[simp] theorem Word.seq_ofFields (op : BitVec 4) (seq : Byte) (ctype : BitVec 5) :
    Word.seq (Word.ofFields op seq ctype) = seq :=
  (BitVec.extractLsb'_append_eq_of_le (by decide)).trans
    ((BitVec.extractLsb'_append_eq_of_le (by decide)).trans BitVec.extractLsb'_append_eq_right)

@[simp] theorem Word.ctype_ofFields (op : BitVec 4) (seq : Byte) (ctype : BitVec 5) :
    Word.ctype (Word.ofFields op seq ctype) = ctype :=
  (BitVec.extractLsb'_append_eq_of_le (by decide)).trans
    ((BitVec.extractLsb'_append_eq_of_le (by decide)).trans
      ((BitVec.extractLsb'_append_eq_of_le (by decide)).trans BitVec.extractLsb'_append_eq_right))

@[simp] theorem Word.rsv1_ofFields (op : BitVec 4) (seq : Byte) (ctype : BitVec 5) :
    Word.rsv1 (Word.ofFields op seq ctype) = 0#11 :=
  (BitVec.extractLsb'_append_eq_of_le (by decide)).trans
    ((BitVec.extractLsb'_append_eq_of_le (by decide)).trans
      ((BitVec.extractLsb'_append_eq_of_le (by decide)).trans BitVec.extractLsb'_append_eq_left))

/-- A word is made of its fields, so one whose reserved bits are zero is `ofFields` of its fields. -/
theorem Word.ofFields_fields (w : Word) (h1 : Word.rsv1 w = 0#11) (h0 : Word.rsv0 w = 0#4) :
    Word.ofFields (Word.op w) (Word.seq w) (Word.ctype w) = w := by
  have split : Word.rsv1 w ++ Word.ctype w ++ Word.seq w ++ Word.rsv0 w ++ Word.op w = w := by
    apply BitVec.eq_of_getLsbD_eq
    intro i hi
    simp only [BitVec.getLsbD_append, Word.op, Word.rsv0, Word.seq, Word.ctype, Word.rsv1, BitVec.getLsbD_extractLsb']
    have last : i - 4 - 4 - 8 - 5 < 11 := by omega
    split_ifs <;> simp only [*, decide_true, Bool.true_and] <;> congr 1 <;> omega
  rw [h1, h0] at split
  exact split

/-! ## The code tables -/

@[simp] theorem Op.ofCode_code (op : Op) : Op.ofCode op.code = some op := by
  cases op <;> rfl

/-- An operation code that is not reserved is the code of its operation. -/
theorem Op.code_of_ofCode : ∀ (c : BitVec 4) (op : Op), Op.ofCode c = some op → op.code = c := by
  decide +revert

@[simp] theorem CType.ofCode_named (t : CmdType) : CType.ofCode t.code = .named t := by
  cases t <;> rfl

/-- A code given as unknown that is well formed decodes to itself. -/
theorem CType.ofCode_code (c : CType) (h : c.wf = true) : CType.ofCode c.code = c := by
  cases c with
  | named t => exact CType.ofCode_named t
  | unknown code =>
    revert h
    revert code
    decide

@[simp] theorem CType.code_ofCode : ∀ c : BitVec 5, (CType.ofCode c).code = c := by
  decide

@[simp] theorem CType.wf_ofCode : ∀ c : BitVec 5, (CType.ofCode c).wf = true := by
  decide

/-! ## Instructions made of fields -/

@[simp] theorem Instr.op_ofFields (op : Op) (seq : Byte) (ctype : BitVec 5) (data : List Byte) :
    (Instr.ofFields op seq ctype data).op = op := by
  cases op <;> rfl

/-- The fields of an instruction made of fields, where its operation uses them. -/
theorem Instr.fields_ofFields (op : Op) (seq : Byte) (ctype : BitVec 5) (data : List Byte) :
    (Instr.ofFields op seq ctype data).ctypeField = (if op.usesCtype = true then ctype else 0#5)
      ∧ (Instr.ofFields op seq ctype data).seqField = (if op.usesSeq = true then seq else 0#8)
      ∧ (Instr.ofFields op seq ctype data).data = (if op.takesData = true then data else []) := by
  cases op <;> simp [Instr.ofFields, Instr.ctypeField, Instr.seqField, Instr.data, Op.usesCtype, Op.usesSeq, Op.takesData]

/-- A request is legal just when it passes the checks of 30_encoding R68, and it then decodes to the instruction its
operation and its fields stand for. -/
theorem decode_eq_ok_iff (maxData : Nat) (r : Request) (i : Instr) :
    decode maxData r = .ok i ↔ ∃ op, Op.ofCode (Word.op r.word) = some op ∧ r.data.length ≤ maxData
      ∧ Word.rsv1 r.word = 0#11 ∧ Word.rsv0 r.word = 0#4
      ∧ (op.usesCtype = true ∨ Word.ctype r.word = 0#5) ∧ (op.usesSeq = true ∨ Word.seq r.word = 0#8)
      ∧ (op.takesData = true ∨ r.data = [])
      ∧ i = Instr.ofFields op (Word.seq r.word) (Word.ctype r.word) r.data := by
  unfold decode
  by_cases hlen : maxData < r.data.length
  · simp [hlen]
  · simp only [hlen, if_false]
    cases hop : Op.ofCode (Word.op r.word) with
    | none => simp
    | some op =>
      have hlen' : r.data.length ≤ maxData := by omega
      simp only [Option.some.injEq, exists_eq_left']
      by_cases h1 : Word.rsv1 r.word = 0#11 <;> by_cases h0 : Word.rsv0 r.word = 0#4 <;> simp [h1, h0, hlen']
      cases op.usesCtype <;> cases op.usesSeq <;> cases op.takesData <;> simp [eq_comm] <;> split_ifs <;> simp_all

end Sys2Proof
end

