-- ==== Sys2Proof/Laws/State.lean ====
section
/-! SUPPORT. What each field is after each update of the state: one lemma per field per update, so that no proof unfolds an
update again; and how the derived registers read after an update. -/

namespace Sys2Proof.Machine

variable (s : State)

/-! ### `flag(X)` (10_state R26) -/

@[simp] theorem State.flag_params (b : StatusBit) : (s.flag b).params = s.params := rfl
@[simp] theorem State.flag_first (b : StatusBit) : (s.flag b).first = s.first := rfl
@[simp] theorem State.flag_cfg (b : StatusBit) : (s.flag b).cfg = s.cfg := rfl
@[simp] theorem State.flag_sticky (b : StatusBit) : (s.flag b).sticky = s.sticky ||| stickyMask b := rfl
@[simp] theorem State.flag_progress (b : StatusBit) : (s.flag b).progress = s.progress := rfl
@[simp] theorem State.flag_host (b : StatusBit) : (s.flag b).host = s.host := rfl
@[simp] theorem State.flag_resetLine (b : StatusBit) : (s.flag b).resetLine = s.resetLine := rfl
@[simp] theorem State.flag_responses (b : StatusBit) : (s.flag b).responses = s.responses := rfl
@[simp] theorem State.flag_wire (b : StatusBit) : (s.flag b).wire = s.wire := rfl
@[simp] theorem State.flag_reads (b : StatusBit) : (s.flag b).reads = s.reads := rfl
@[simp] theorem State.flag_txScript (b : StatusBit) : (s.flag b).txScript = s.txScript := rfl
@[simp] theorem State.flag_txPolls (b : StatusBit) : (s.flag b).txPolls = s.txPolls := rfl
@[simp] theorem State.flag_rxScript (b : StatusBit) : (s.flag b).rxScript = s.rxScript := rfl
@[simp] theorem State.flag_rxPolls (b : StatusBit) : (s.flag b).rxPolls = s.rxPolls := rfl

/-! ### the sticky bits cleared (43_control R153) -/

@[simp] theorem State.clearSticky_params : (s.clearSticky).params = s.params := rfl
@[simp] theorem State.clearSticky_first : (s.clearSticky).first = s.first := rfl
@[simp] theorem State.clearSticky_cfg : (s.clearSticky).cfg = s.cfg := rfl
@[simp] theorem State.clearSticky_sticky : (s.clearSticky).sticky = 0#7 := rfl
@[simp] theorem State.clearSticky_progress : (s.clearSticky).progress = s.progress := rfl
@[simp] theorem State.clearSticky_host : (s.clearSticky).host = s.host := rfl
@[simp] theorem State.clearSticky_resetLine : (s.clearSticky).resetLine = s.resetLine := rfl
@[simp] theorem State.clearSticky_responses : (s.clearSticky).responses = s.responses := rfl
@[simp] theorem State.clearSticky_wire : (s.clearSticky).wire = s.wire := rfl
@[simp] theorem State.clearSticky_reads : (s.clearSticky).reads = s.reads := rfl
@[simp] theorem State.clearSticky_txScript : (s.clearSticky).txScript = s.txScript := rfl
@[simp] theorem State.clearSticky_txPolls : (s.clearSticky).txPolls = s.txPolls := rfl
@[simp] theorem State.clearSticky_rxScript : (s.clearSticky).rxScript = s.rxScript := rfl
@[simp] theorem State.clearSticky_rxPolls : (s.clearSticky).rxPolls = s.rxPolls := rfl

/-! ### a write of FIRST (10_state R23) -/

@[simp] theorem State.setFirst_params (v : Bool) : (s.setFirst v).params = s.params := rfl
@[simp] theorem State.setFirst_first (v : Bool) : (s.setFirst v).first = v := rfl
@[simp] theorem State.setFirst_cfg (v : Bool) : (s.setFirst v).cfg = s.cfg := rfl
@[simp] theorem State.setFirst_sticky (v : Bool) : (s.setFirst v).sticky = s.sticky := rfl
@[simp] theorem State.setFirst_progress (v : Bool) : (s.setFirst v).progress = s.progress := rfl
@[simp] theorem State.setFirst_host (v : Bool) : (s.setFirst v).host = s.host := rfl
@[simp] theorem State.setFirst_resetLine (v : Bool) : (s.setFirst v).resetLine = s.resetLine := rfl
@[simp] theorem State.setFirst_responses (v : Bool) : (s.setFirst v).responses = s.responses := rfl
@[simp] theorem State.setFirst_wire (v : Bool) : (s.setFirst v).wire = s.wire := rfl
@[simp] theorem State.setFirst_reads (v : Bool) : (s.setFirst v).reads = s.reads := rfl
@[simp] theorem State.setFirst_txScript (v : Bool) : (s.setFirst v).txScript = s.txScript := rfl
@[simp] theorem State.setFirst_txPolls (v : Bool) : (s.setFirst v).txPolls = s.txPolls := rfl
@[simp] theorem State.setFirst_rxScript (v : Bool) : (s.setFirst v).rxScript = s.rxScript := rfl
@[simp] theorem State.setFirst_rxPolls (v : Bool) : (s.setFirst v).rxPolls = s.rxPolls := rfl

/-! ### a write of CFG (43_control R151) -/

@[simp] theorem State.writeCfg_params (v : Byte) : (s.writeCfg v).params = s.params := rfl
@[simp] theorem State.writeCfg_first (v : Byte) : (s.writeCfg v).first = s.first := rfl
@[simp] theorem State.writeCfg_cfg (v : Byte) : (s.writeCfg v).cfg = v &&& 0x01#8 := rfl
@[simp] theorem State.writeCfg_sticky (v : Byte) : (s.writeCfg v).sticky = s.sticky := rfl
@[simp] theorem State.writeCfg_progress (v : Byte) : (s.writeCfg v).progress = s.progress := rfl
@[simp] theorem State.writeCfg_host (v : Byte) : (s.writeCfg v).host = s.host := rfl
@[simp] theorem State.writeCfg_resetLine (v : Byte) : (s.writeCfg v).resetLine = s.resetLine := rfl
@[simp] theorem State.writeCfg_responses (v : Byte) : (s.writeCfg v).responses = s.responses := rfl
@[simp] theorem State.writeCfg_wire (v : Byte) : (s.writeCfg v).wire = s.wire := rfl
@[simp] theorem State.writeCfg_reads (v : Byte) : (s.writeCfg v).reads = s.reads := rfl
@[simp] theorem State.writeCfg_txScript (v : Byte) : (s.writeCfg v).txScript = s.txScript := rfl
@[simp] theorem State.writeCfg_txPolls (v : Byte) : (s.writeCfg v).txPolls = s.txPolls := rfl
@[simp] theorem State.writeCfg_rxScript (v : Byte) : (s.writeCfg v).rxScript = s.rxScript := rfl
@[simp] theorem State.writeCfg_rxPolls (v : Byte) : (s.writeCfg v).rxPolls = s.rxPolls := rfl

/-! ### a response (30_encoding R72) -/

@[simp] theorem State.respond_params (tag : Tag) (bytes : List Byte) : (s.respond tag bytes).params = s.params := rfl
@[simp] theorem State.respond_first (tag : Tag) (bytes : List Byte) : (s.respond tag bytes).first = s.first := rfl
@[simp] theorem State.respond_cfg (tag : Tag) (bytes : List Byte) : (s.respond tag bytes).cfg = s.cfg := rfl
@[simp] theorem State.respond_sticky (tag : Tag) (bytes : List Byte) : (s.respond tag bytes).sticky = s.sticky := rfl
@[simp] theorem State.respond_progress (tag : Tag) (bytes : List Byte) : (s.respond tag bytes).progress = s.progress := rfl
@[simp] theorem State.respond_host (tag : Tag) (bytes : List Byte) : (s.respond tag bytes).host = s.host := rfl
@[simp] theorem State.respond_resetLine (tag : Tag) (bytes : List Byte) : (s.respond tag bytes).resetLine = s.resetLine := rfl
@[simp] theorem State.respond_responses (tag : Tag) (bytes : List Byte) : (s.respond tag bytes).responses = s.responses ++ [{ tag := tag, bytes := bytes }] := rfl
@[simp] theorem State.respond_wire (tag : Tag) (bytes : List Byte) : (s.respond tag bytes).wire = s.wire := rfl
@[simp] theorem State.respond_reads (tag : Tag) (bytes : List Byte) : (s.respond tag bytes).reads = s.reads := rfl
@[simp] theorem State.respond_txScript (tag : Tag) (bytes : List Byte) : (s.respond tag bytes).txScript = s.txScript := rfl
@[simp] theorem State.respond_txPolls (tag : Tag) (bytes : List Byte) : (s.respond tag bytes).txPolls = s.txPolls := rfl
@[simp] theorem State.respond_rxScript (tag : Tag) (bytes : List Byte) : (s.respond tag bytes).rxScript = s.rxScript := rfl
@[simp] theorem State.respond_rxPolls (tag : Tag) (bytes : List Byte) : (s.respond tag bytes).rxPolls = s.rxPolls := rfl

/-! ### a failure outcome (60_exceptions R170) -/

@[simp] theorem State.fail_params (b : StatusBit) : (s.fail b).params = s.params := rfl
@[simp] theorem State.fail_first (b : StatusBit) : (s.fail b).first = s.first := rfl
@[simp] theorem State.fail_cfg (b : StatusBit) : (s.fail b).cfg = s.cfg := rfl
@[simp] theorem State.fail_sticky (b : StatusBit) : (s.fail b).sticky = s.sticky ||| stickyMask b := rfl
@[simp] theorem State.fail_progress (b : StatusBit) : (s.fail b).progress = s.progress := rfl
@[simp] theorem State.fail_host (b : StatusBit) : (s.fail b).host = s.host := rfl
@[simp] theorem State.fail_resetLine (b : StatusBit) : (s.fail b).resetLine = s.resetLine := rfl
@[simp] theorem State.fail_responses (b : StatusBit) : (s.fail b).responses = s.responses ++ [{ tag := .error, bytes := sentinel }] := rfl
@[simp] theorem State.fail_wire (b : StatusBit) : (s.fail b).wire = s.wire := rfl
@[simp] theorem State.fail_reads (b : StatusBit) : (s.fail b).reads = s.reads := rfl
@[simp] theorem State.fail_txScript (b : StatusBit) : (s.fail b).txScript = s.txScript := rfl
@[simp] theorem State.fail_txPolls (b : StatusBit) : (s.fail b).txPolls = s.txPolls := rfl
@[simp] theorem State.fail_rxScript (b : StatusBit) : (s.fail b).rxScript = s.rxScript := rfl
@[simp] theorem State.fail_rxPolls (b : StatusBit) : (s.fail b).rxPolls = s.rxPolls := rfl

/-! ### the illegal-request outcome (60_exceptions R172) -/

@[simp] theorem State.raiseIllegal_params : (s.raiseIllegal).params = s.params := rfl
@[simp] theorem State.raiseIllegal_first : (s.raiseIllegal).first = s.first := rfl
@[simp] theorem State.raiseIllegal_cfg : (s.raiseIllegal).cfg = s.cfg := rfl
@[simp] theorem State.raiseIllegal_sticky : (s.raiseIllegal).sticky = s.sticky ||| stickyMask .ill := rfl
@[simp] theorem State.raiseIllegal_progress : (s.raiseIllegal).progress = s.progress := rfl
@[simp] theorem State.raiseIllegal_host : (s.raiseIllegal).host = s.host := rfl
@[simp] theorem State.raiseIllegal_resetLine : (s.raiseIllegal).resetLine = s.resetLine := rfl
@[simp] theorem State.raiseIllegal_responses : (s.raiseIllegal).responses = s.responses ++ [{ tag := .error, bytes := sentinel }] := rfl
@[simp] theorem State.raiseIllegal_wire : (s.raiseIllegal).wire = s.wire := rfl
@[simp] theorem State.raiseIllegal_reads : (s.raiseIllegal).reads = s.reads := rfl
@[simp] theorem State.raiseIllegal_txScript : (s.raiseIllegal).txScript = s.txScript := rfl
@[simp] theorem State.raiseIllegal_txPolls : (s.raiseIllegal).txPolls = s.txPolls := rfl
@[simp] theorem State.raiseIllegal_rxScript : (s.raiseIllegal).rxScript = s.rxScript := rfl
@[simp] theorem State.raiseIllegal_rxPolls : (s.raiseIllegal).rxPolls = s.rxPolls := rfl

/-! ### a write poll -/

@[simp] theorem State.tickTx_params : (s.tickTx).params = s.params := rfl
@[simp] theorem State.tickTx_first : (s.tickTx).first = s.first := rfl
@[simp] theorem State.tickTx_cfg : (s.tickTx).cfg = s.cfg := rfl
@[simp] theorem State.tickTx_sticky : (s.tickTx).sticky = s.sticky := rfl
@[simp] theorem State.tickTx_progress : (s.tickTx).progress = s.progress := rfl
@[simp] theorem State.tickTx_host : (s.tickTx).host = s.host := rfl
@[simp] theorem State.tickTx_resetLine : (s.tickTx).resetLine = s.resetLine := rfl
@[simp] theorem State.tickTx_responses : (s.tickTx).responses = s.responses := rfl
@[simp] theorem State.tickTx_wire : (s.tickTx).wire = s.wire := rfl
@[simp] theorem State.tickTx_reads : (s.tickTx).reads = s.reads := rfl
@[simp] theorem State.tickTx_txScript : (s.tickTx).txScript = s.txScript := rfl
@[simp] theorem State.tickTx_txPolls : (s.tickTx).txPolls = s.txPolls + 1 := rfl
@[simp] theorem State.tickTx_rxScript : (s.tickTx).rxScript = s.rxScript := rfl
@[simp] theorem State.tickTx_rxPolls : (s.tickTx).rxPolls = s.rxPolls := rfl

/-! ### a read poll -/

@[simp] theorem State.tickRx_params : (s.tickRx).params = s.params := rfl
@[simp] theorem State.tickRx_first : (s.tickRx).first = s.first := rfl
@[simp] theorem State.tickRx_cfg : (s.tickRx).cfg = s.cfg := rfl
@[simp] theorem State.tickRx_sticky : (s.tickRx).sticky = s.sticky := rfl
@[simp] theorem State.tickRx_progress : (s.tickRx).progress = s.progress := rfl
@[simp] theorem State.tickRx_host : (s.tickRx).host = s.host := rfl
@[simp] theorem State.tickRx_resetLine : (s.tickRx).resetLine = s.resetLine := rfl
@[simp] theorem State.tickRx_responses : (s.tickRx).responses = s.responses := rfl
@[simp] theorem State.tickRx_wire : (s.tickRx).wire = s.wire := rfl
@[simp] theorem State.tickRx_reads : (s.tickRx).reads = s.reads := rfl
@[simp] theorem State.tickRx_txScript : (s.tickRx).txScript = s.txScript := rfl
@[simp] theorem State.tickRx_txPolls : (s.tickRx).txPolls = s.txPolls := rfl
@[simp] theorem State.tickRx_rxScript : (s.tickRx).rxScript = s.rxScript := rfl
@[simp] theorem State.tickRx_rxPolls : (s.tickRx).rxPolls = s.rxPolls + 1 := rfl

/-! ### a byte on the wire (20_memory R44) -/

@[simp] theorem State.putWire_params (b : Byte) : (s.putWire b).params = s.params := rfl
@[simp] theorem State.putWire_first (b : Byte) : (s.putWire b).first = s.first := rfl
@[simp] theorem State.putWire_cfg (b : Byte) : (s.putWire b).cfg = s.cfg := rfl
@[simp] theorem State.putWire_sticky (b : Byte) : (s.putWire b).sticky = s.sticky := rfl
@[simp] theorem State.putWire_progress (b : Byte) : (s.putWire b).progress = s.progress := rfl
@[simp] theorem State.putWire_host (b : Byte) : (s.putWire b).host = s.host := rfl
@[simp] theorem State.putWire_resetLine (b : Byte) : (s.putWire b).resetLine = s.resetLine := rfl
@[simp] theorem State.putWire_responses (b : Byte) : (s.putWire b).responses = s.responses := rfl
@[simp] theorem State.putWire_wire (b : Byte) : (s.putWire b).wire = s.wire ++ [b] := rfl
@[simp] theorem State.putWire_reads (b : Byte) : (s.putWire b).reads = s.reads := rfl
@[simp] theorem State.putWire_txScript (b : Byte) : (s.putWire b).txScript = s.txScript := rfl
@[simp] theorem State.putWire_txPolls (b : Byte) : (s.putWire b).txPolls = s.txPolls := rfl
@[simp] theorem State.putWire_rxScript (b : Byte) : (s.putWire b).rxScript = s.rxScript := rfl
@[simp] theorem State.putWire_rxPolls (b : Byte) : (s.putWire b).rxPolls = s.rxPolls := rfl

/-! ### an answered read (10_state R32) -/

@[simp] theorem State.logRead_params (a : RxAnswer) : (s.logRead a).params = s.params := rfl
@[simp] theorem State.logRead_first (a : RxAnswer) : (s.logRead a).first = s.first := rfl
@[simp] theorem State.logRead_cfg (a : RxAnswer) : (s.logRead a).cfg = s.cfg := rfl
@[simp] theorem State.logRead_sticky (a : RxAnswer) : (s.logRead a).sticky = s.sticky := rfl
@[simp] theorem State.logRead_progress (a : RxAnswer) : (s.logRead a).progress = s.progress := rfl
@[simp] theorem State.logRead_host (a : RxAnswer) : (s.logRead a).host = s.host := rfl
@[simp] theorem State.logRead_resetLine (a : RxAnswer) : (s.logRead a).resetLine = s.resetLine := rfl
@[simp] theorem State.logRead_responses (a : RxAnswer) : (s.logRead a).responses = s.responses := rfl
@[simp] theorem State.logRead_wire (a : RxAnswer) : (s.logRead a).wire = s.wire := rfl
@[simp] theorem State.logRead_reads (a : RxAnswer) : (s.logRead a).reads = s.reads ++ [a] := rfl
@[simp] theorem State.logRead_txScript (a : RxAnswer) : (s.logRead a).txScript = s.txScript := rfl
@[simp] theorem State.logRead_txPolls (a : RxAnswer) : (s.logRead a).txPolls = s.txPolls := rfl
@[simp] theorem State.logRead_rxScript (a : RxAnswer) : (s.logRead a).rxScript = s.rxScript := rfl
@[simp] theorem State.logRead_rxPolls (a : RxAnswer) : (s.logRead a).rxPolls = s.rxPolls := rfl

/-! ### a held request (00_scope R7) -/

@[simp] theorem State.hold_params (p : Progress) : (s.hold p).params = s.params := rfl
@[simp] theorem State.hold_first (p : Progress) : (s.hold p).first = s.first := rfl
@[simp] theorem State.hold_cfg (p : Progress) : (s.hold p).cfg = s.cfg := rfl
@[simp] theorem State.hold_sticky (p : Progress) : (s.hold p).sticky = s.sticky := rfl
@[simp] theorem State.hold_progress (p : Progress) : (s.hold p).progress = some p := rfl
@[simp] theorem State.hold_host (p : Progress) : (s.hold p).host = s.host := rfl
@[simp] theorem State.hold_resetLine (p : Progress) : (s.hold p).resetLine = s.resetLine := rfl
@[simp] theorem State.hold_responses (p : Progress) : (s.hold p).responses = s.responses := rfl
@[simp] theorem State.hold_wire (p : Progress) : (s.hold p).wire = s.wire := rfl
@[simp] theorem State.hold_reads (p : Progress) : (s.hold p).reads = s.reads := rfl
@[simp] theorem State.hold_txScript (p : Progress) : (s.hold p).txScript = s.txScript := rfl
@[simp] theorem State.hold_txPolls (p : Progress) : (s.hold p).txPolls = s.txPolls := rfl
@[simp] theorem State.hold_rxScript (p : Progress) : (s.hold p).rxScript = s.rxScript := rfl
@[simp] theorem State.hold_rxPolls (p : Progress) : (s.hold p).rxPolls = s.rxPolls := rfl

/-! ### no request in progress -/

@[simp] theorem State.release_params : (s.release).params = s.params := rfl
@[simp] theorem State.release_first : (s.release).first = s.first := rfl
@[simp] theorem State.release_cfg : (s.release).cfg = s.cfg := rfl
@[simp] theorem State.release_sticky : (s.release).sticky = s.sticky := rfl
@[simp] theorem State.release_progress : (s.release).progress = none := rfl
@[simp] theorem State.release_host : (s.release).host = s.host := rfl
@[simp] theorem State.release_resetLine : (s.release).resetLine = s.resetLine := rfl
@[simp] theorem State.release_responses : (s.release).responses = s.responses := rfl
@[simp] theorem State.release_wire : (s.release).wire = s.wire := rfl
@[simp] theorem State.release_reads : (s.release).reads = s.reads := rfl
@[simp] theorem State.release_txScript : (s.release).txScript = s.txScript := rfl
@[simp] theorem State.release_txPolls : (s.release).txPolls = s.txPolls := rfl
@[simp] theorem State.release_rxScript : (s.release).rxScript = s.rxScript := rfl
@[simp] theorem State.release_rxPolls : (s.release).rxPolls = s.rxPolls := rfl

/-! ### an accepted request (20_memory R47) -/

@[simp] theorem State.setHost_params (rest : List Request) : (s.setHost rest).params = s.params := rfl
@[simp] theorem State.setHost_first (rest : List Request) : (s.setHost rest).first = s.first := rfl
@[simp] theorem State.setHost_cfg (rest : List Request) : (s.setHost rest).cfg = s.cfg := rfl
@[simp] theorem State.setHost_sticky (rest : List Request) : (s.setHost rest).sticky = s.sticky := rfl
@[simp] theorem State.setHost_progress (rest : List Request) : (s.setHost rest).progress = s.progress := rfl
@[simp] theorem State.setHost_host (rest : List Request) : (s.setHost rest).host = rest := rfl
@[simp] theorem State.setHost_resetLine (rest : List Request) : (s.setHost rest).resetLine = s.resetLine := rfl
@[simp] theorem State.setHost_responses (rest : List Request) : (s.setHost rest).responses = s.responses := rfl
@[simp] theorem State.setHost_wire (rest : List Request) : (s.setHost rest).wire = s.wire := rfl
@[simp] theorem State.setHost_reads (rest : List Request) : (s.setHost rest).reads = s.reads := rfl
@[simp] theorem State.setHost_txScript (rest : List Request) : (s.setHost rest).txScript = s.txScript := rfl
@[simp] theorem State.setHost_txPolls (rest : List Request) : (s.setHost rest).txPolls = s.txPolls := rfl
@[simp] theorem State.setHost_rxScript (rest : List Request) : (s.setHost rest).rxScript = s.rxScript := rfl
@[simp] theorem State.setHost_rxPolls (rest : List Request) : (s.setHost rest).rxPolls = s.rxPolls := rfl

/-! ### reset (70_reset R190, R191) -/

@[simp] theorem State.applyReset_params : (s.applyReset).params = s.params := rfl
@[simp] theorem State.applyReset_first : (s.applyReset).first = true := rfl
@[simp] theorem State.applyReset_cfg : (s.applyReset).cfg = 0x00#8 := rfl
@[simp] theorem State.applyReset_sticky : (s.applyReset).sticky = 0#7 := rfl
@[simp] theorem State.applyReset_progress : (s.applyReset).progress = none := rfl
@[simp] theorem State.applyReset_host : (s.applyReset).host = s.host := rfl
@[simp] theorem State.applyReset_resetLine : (s.applyReset).resetLine = false := rfl
@[simp] theorem State.applyReset_responses : (s.applyReset).responses = s.responses := rfl
@[simp] theorem State.applyReset_wire : (s.applyReset).wire = s.wire := rfl
@[simp] theorem State.applyReset_reads : (s.applyReset).reads = s.reads := rfl
@[simp] theorem State.applyReset_txScript : (s.applyReset).txScript = s.txScript := rfl
@[simp] theorem State.applyReset_txPolls : (s.applyReset).txPolls = s.txPolls := rfl
@[simp] theorem State.applyReset_rxScript : (s.applyReset).rxScript = s.rxScript := rfl
@[simp] theorem State.applyReset_rxPolls : (s.applyReset).rxPolls = s.rxPolls := rfl

/-! ### TRANSPORT's answers, which only the scripts and the instance decide -/

@[simp] theorem State.flag_txAnswer (b : StatusBit) (k : Nat) : (s.flag b).txAnswer k = s.txAnswer k := rfl
@[simp] theorem State.flag_rxAnswer (b : StatusBit) (k : Nat) : (s.flag b).rxAnswer k = s.rxAnswer k := rfl
@[simp] theorem State.clearSticky_txAnswer (k : Nat) : (s.clearSticky).txAnswer k = s.txAnswer k := rfl
@[simp] theorem State.clearSticky_rxAnswer (k : Nat) : (s.clearSticky).rxAnswer k = s.rxAnswer k := rfl
@[simp] theorem State.setFirst_txAnswer (v : Bool) (k : Nat) : (s.setFirst v).txAnswer k = s.txAnswer k := rfl
@[simp] theorem State.setFirst_rxAnswer (v : Bool) (k : Nat) : (s.setFirst v).rxAnswer k = s.rxAnswer k := rfl
@[simp] theorem State.writeCfg_txAnswer (v : Byte) (k : Nat) : (s.writeCfg v).txAnswer k = s.txAnswer k := rfl
@[simp] theorem State.writeCfg_rxAnswer (v : Byte) (k : Nat) : (s.writeCfg v).rxAnswer k = s.rxAnswer k := rfl
@[simp] theorem State.respond_txAnswer (tag : Tag) (bytes : List Byte) (k : Nat) : (s.respond tag bytes).txAnswer k = s.txAnswer k := rfl
@[simp] theorem State.respond_rxAnswer (tag : Tag) (bytes : List Byte) (k : Nat) : (s.respond tag bytes).rxAnswer k = s.rxAnswer k := rfl
@[simp] theorem State.fail_txAnswer (b : StatusBit) (k : Nat) : (s.fail b).txAnswer k = s.txAnswer k := rfl
@[simp] theorem State.fail_rxAnswer (b : StatusBit) (k : Nat) : (s.fail b).rxAnswer k = s.rxAnswer k := rfl
@[simp] theorem State.raiseIllegal_txAnswer (k : Nat) : (s.raiseIllegal).txAnswer k = s.txAnswer k := rfl
@[simp] theorem State.raiseIllegal_rxAnswer (k : Nat) : (s.raiseIllegal).rxAnswer k = s.rxAnswer k := rfl
@[simp] theorem State.tickTx_txAnswer (k : Nat) : (s.tickTx).txAnswer k = s.txAnswer k := rfl
@[simp] theorem State.tickTx_rxAnswer (k : Nat) : (s.tickTx).rxAnswer k = s.rxAnswer k := rfl
@[simp] theorem State.tickRx_txAnswer (k : Nat) : (s.tickRx).txAnswer k = s.txAnswer k := rfl
@[simp] theorem State.tickRx_rxAnswer (k : Nat) : (s.tickRx).rxAnswer k = s.rxAnswer k := rfl
@[simp] theorem State.putWire_txAnswer (b : Byte) (k : Nat) : (s.putWire b).txAnswer k = s.txAnswer k := rfl
@[simp] theorem State.putWire_rxAnswer (b : Byte) (k : Nat) : (s.putWire b).rxAnswer k = s.rxAnswer k := rfl
@[simp] theorem State.logRead_txAnswer (a : RxAnswer) (k : Nat) : (s.logRead a).txAnswer k = s.txAnswer k := rfl
@[simp] theorem State.logRead_rxAnswer (a : RxAnswer) (k : Nat) : (s.logRead a).rxAnswer k = s.rxAnswer k := rfl
@[simp] theorem State.hold_txAnswer (p : Progress) (k : Nat) : (s.hold p).txAnswer k = s.txAnswer k := rfl
@[simp] theorem State.hold_rxAnswer (p : Progress) (k : Nat) : (s.hold p).rxAnswer k = s.rxAnswer k := rfl
@[simp] theorem State.release_txAnswer (k : Nat) : (s.release).txAnswer k = s.txAnswer k := rfl
@[simp] theorem State.release_rxAnswer (k : Nat) : (s.release).rxAnswer k = s.rxAnswer k := rfl
@[simp] theorem State.setHost_txAnswer (rest : List Request) (k : Nat) : (s.setHost rest).txAnswer k = s.txAnswer k := rfl
@[simp] theorem State.setHost_rxAnswer (rest : List Request) (k : Nat) : (s.setHost rest).rxAnswer k = s.rxAnswer k := rfl
@[simp] theorem State.applyReset_txAnswer (k : Nat) : (s.applyReset).txAnswer k = s.txAnswer k := rfl
@[simp] theorem State.applyReset_rxAnswer (k : Nat) : (s.applyReset).rxAnswer k = s.rxAnswer k := rfl

end Sys2Proof.Machine
end

