-- ==== Sys2Proof/Laws/Ops.lean ====
section
/-! SUPPORT. One lemma per shared operation that says once everything it can do. -/

namespace Sys2Proof.Machine

/-- A strict check answers positive just when every offset is inside the reply and holds 0x06. -/
theorem strictVerdict_eq_positive_iff (offsets : List Nat) (reply : List Byte) :
    strictVerdict offsets reply = .positive ↔ ∀ o ∈ offsets, reply[o]? = some ackPos := by
  unfold strictVerdict
  split
  · rename_i h
    simp only [List.any_eq_true, decide_eq_true_eq] at h
    obtain ⟨o, ho, hlen⟩ := h
    simp only [reduceCtorEq, false_iff, not_forall]
    exact ⟨o, ho, by simp [List.getElem?_eq_none hlen]⟩
  · split
    · rename_i h
      simpa using h
    · rename_i h
      have hne : ¬ ∀ o ∈ offsets, reply[o]? = some ackPos := by simpa using h
      split <;> simp [hne]

/-- A transport read never answers with more than RX_MAX bytes (20_memory R45). -/
theorem State.rxAnswer_length_le (s : State) (k : Nat) (reply : List Byte) (h : s.rxAnswer k = some (.ok reply)) :
    reply.length ≤ s.params.rxMax := by
  have cut : ∀ o : Option RxAnswer, o.map (cutReply s.params.rxMax) = some (.ok reply) → reply.length ≤ s.params.rxMax := by
    rintro (_ | (r | _)) ho
    · simp at ho
    · obtain rfl : r.take s.params.rxMax = reply := by simpa [cutReply] using ho
      simp
    · simp [cutReply] at ho
  unfold State.rxAnswer at h
  split at h
  · exact cut _ h
  · exact cut _ h

/-- Judging a reply gives one response and at most one flag (42_serial R128, R129). -/
theorem State.judge_cases (s : State) (reply : List Byte) :
    (verdict s.params s.strict reply = .positive ∧ s.judge reply = s.respond .ok reply) ∨
    (verdict s.params s.strict reply = .negative ∧ s.judge reply = (s.flag .nak).respond .negack reply) ∨
    (verdict s.params s.strict reply = .invalid ∧ s.judge reply = s.fail .inv) := by
  unfold State.judge
  split <;> simp_all

/-- A read is held, fails, or is judged (42_serial R128). -/
theorem receive_cases (s : State) :
    (s.rxAnswer s.rxPolls = none ∧ receive s = s.tickRx.hold .receiving) ∨
    (s.rxAnswer s.rxPolls = some .fail ∧ receive s = (s.tickRx.logRead .fail).fail .rxf) ∨
    (∃ reply, s.rxAnswer s.rxPolls = some (.ok reply) ∧ receive s = (s.tickRx.logRead (.ok reply)).judge reply) := by
  unfold receive
  split <;> simp_all

/-- The state of a transmission after the first `k` bytes of `w` have been written (42_serial R124). -/
def State.written (s : State) (w : List Byte) (k : Nat) : State :=
  { s with wire := s.wire ++ w.take k, txPolls := s.txPolls + k }

/-- The writes all succeed, or the one at offset `k` is held, or it fails and its byte is on the line or not
(42_serial R124, R125; 20_memory R44). -/
theorem transmit_cases (frame : List Byte) (after : After) (w : List Byte) (s : State) :
    ((∀ j < w.length, s.txAnswer (s.txPolls + j) = some .ok) ∧
      transmit frame after w s = afterSend frame after (s.written w w.length)) ∨
    ∃ k < w.length, (∀ j < k, s.txAnswer (s.txPolls + j) = some .ok) ∧
      ((s.txAnswer (s.txPolls + k) = none ∧
          transmit frame after w s = (s.written w k).tickTx.hold (.sending frame (w.drop k) after)) ∨
        (s.txAnswer (s.txPolls + k) = some .failLost ∧ transmit frame after w s = (s.written w k).tickTx.fail .txf) ∨
        (s.txAnswer (s.txPolls + k) = some .failSent ∧ transmit frame after w s = (s.written w (k + 1)).fail .txf)) := by
  induction w generalizing s with
  | nil => left; simp [transmit, State.written]
  | cons b rest ih =>
    cases h : s.txAnswer s.txPolls with
    | none => exact .inr ⟨0, by simp, by simp, .inl ⟨by simpa using h, by simp [transmit, h, State.written]⟩⟩
    | some a =>
      cases a with
      | failLost => exact .inr ⟨0, by simp, by simp, .inr (.inl ⟨by simpa using h, by simp [transmit, h, State.written]⟩)⟩
      | failSent =>
        exact .inr ⟨0, by simp, by simp, .inr (.inr ⟨by simpa using h,
          by simp [transmit, h, State.written, State.putWire, State.tickTx]⟩)⟩
      | ok =>
        have hstep : transmit frame after (b :: rest) s = transmit frame after rest (s.tickTx.putWire b) := by
          simp [transmit, h]
        have hwritten : ∀ k, (s.tickTx.putWire b).written rest k = s.written (b :: rest) (k + 1) := by
          intro k
          simp [State.written, State.putWire, State.tickTx, Nat.add_assoc, Nat.add_comm 1 k]
        have hok : ∀ n, (∀ j < n, s.txAnswer (s.txPolls + 1 + j) = some .ok) →
            ∀ j < n + 1, s.txAnswer (s.txPolls + j) = some .ok := by
          intro n hn j hj
          cases j with
          | zero => simpa using h
          | succ j => simpa [Nat.add_assoc, Nat.add_comm 1 j] using hn j (by omega)
        rcases ih (s.tickTx.putWire b) with ⟨hall, heq⟩ | ⟨k, hk, hall, hcase⟩
        · left
          refine ⟨hok rest.length (by simpa using hall), ?_⟩
          rw [hstep, heq, hwritten]; rfl
        · right
          refine ⟨k + 1, by simpa using hk, hok k (by simpa using hall), ?_⟩
          have harg : s.txPolls + (k + 1) = s.txPolls + 1 + k := by omega
          rw [hstep, harg]
          simpa [hwritten] using hcase

/-- Writes that are all answered ok are all made (42_serial R124). -/
theorem transmit_of_ok {w : List Byte} {s : State} (frame : List Byte) (after : After)
    (hok : ∀ j < w.length, s.txAnswer (s.txPolls + j) = some .ok) :
    transmit frame after w s = afterSend frame after (s.written w w.length) := by
  rcases transmit_cases frame after w s with ⟨_, e⟩ | ⟨k, hk, _, h⟩
  · exact e
  · simp [hok k hk] at h

/-- The first write that is not answered ok is held or ends the transmission (42_serial R125; 00_scope R7). -/
theorem transmit_of_not_ok {w : List Byte} {s : State} {k : Nat} (frame : List Byte) (after : After) (hk : k < w.length)
    (hok : ∀ j < k, s.txAnswer (s.txPolls + j) = some .ok) (hnot : s.txAnswer (s.txPolls + k) ≠ some .ok) :
    (s.txAnswer (s.txPolls + k) = none ∧
        transmit frame after w s = (s.written w k).tickTx.hold (.sending frame (w.drop k) after)) ∨
      (s.txAnswer (s.txPolls + k) = some .failLost ∧ transmit frame after w s = (s.written w k).tickTx.fail .txf) ∨
      (s.txAnswer (s.txPolls + k) = some .failSent ∧ transmit frame after w s = (s.written w (k + 1)).fail .txf) := by
  rcases transmit_cases frame after w s with ⟨h, _⟩ | ⟨j, hj, hall, h⟩
  · exact absurd (h k hk) hnot
  · rcases Nat.lt_trichotomy j k with hlt | rfl | hlt
    · simp [hok j hlt] at h
    · exact h
    · exact absurd (hall k hlt) hnot

/-- A frame that is not empty is transmitted with its wake bytes; an empty one is an error (42_serial R124). -/
theorem sendFrame_cases (frame : List Byte) (after : After) (s : State) :
    (frame = [] ∧ sendFrame frame after s = s.fail .emp) ∨
    (frame ≠ [] ∧ sendFrame frame after s = transmit frame after (wakeWrap s.params frame) s) := by
  cases frame <;> simp [sendFrame]

/-- The one flag BUILD can set (40_builder R84). -/
theorem State.noteUnknown_cases (s : State) (ctype : CType) :
    s.noteUnknown ctype = s ∨
    (s.noteUnknown ctype = s.flag .unk ∧ s.strict = true ∧ ∃ code, ctype = .unknown code) := by
  cases ctype with
  | named t => left; simp [State.noteUnknown, CType.isUnknown]
  | unknown code =>
    cases hs : s.strict with
    | false => left; simp [State.noteUnknown, CType.isUnknown, hs]
    | true => right; simp [State.noteUnknown, CType.isUnknown, hs]

/-- A frame has at least eight bytes, so it is never empty (41_framer R110). -/
theorem frameBytes_ne_nil (first : Bool) (seq : Byte) (command : List Byte) : frameBytes first seq command ≠ [] := by
  cases first <;> simp [frameBytes, term]

end Sys2Proof.Machine
end

