-- ==== Sys2Proof/Laws/PerInstr.lean ====
section
/-! SUPPORT. Families of lemmas, one per constructor of Instr. -/

namespace Sys2Proof.Laws

/-- `match` of an operation's row in opcode_table.json: its code in bits 3:0. -/
def tableMatch (op : Op) : Word := op.code.setWidth 32

/-- `mask` of an operation's row in opcode_table.json. -/
def tableMask : Op → Word
  | .build | .buildframe => 0xFFE000FF#32
  | .frame | .exec | .wrcfg => 0xFFFF00FF#32
  | .send | .recv | .validate | .revb | .session | .rdstat | .clrstat => 0xFFFFFFFF#32

/-- A word made of fields, under a mask made of fields. -/
theorem ofFields_and (op op' : BitVec 4) (seq seq' : Byte) (ctype ctype' : BitVec 5) :
    Word.ofFields op seq ctype &&& (0x7FF#11 ++ ctype' ++ seq' ++ 0xF#4 ++ op')
      = Word.ofFields (op &&& op') (seq &&& seq') (ctype &&& ctype') := by
  simp only [Word.ofFields]
  exact BitVec.and_append.trans (congrArg (· ++ _) (BitVec.and_append.trans (congrArg (· ++ _)
    (BitVec.and_append.trans (congrArg (· ++ _) BitVec.and_append)))))

/-- The word an instruction encodes to matches its row of the opcode table. -/
def EncodeMatchesTable.Statement (i : Instr) : Prop := (encode i).word &&& tableMask i.op = tableMatch i.op

namespace EncodeMatchesTable

theorem build (ctype : CType) (seq : Byte) (payload : List Byte) : Statement (.build ctype seq payload) :=
  (ofFields_and 1#4 0xF#4 seq 0#8 ctype.code 0#5).trans (by simp only [BitVec.and_zero]; rfl)

theorem frame (seq : Byte) (command : List Byte) : Statement (.frame seq command) :=
  (ofFields_and 2#4 0xF#4 seq 0#8 0#5 0x1F#5).trans (by simp only [BitVec.and_zero]; rfl)

theorem buildframe (ctype : CType) (seq : Byte) (payload : List Byte) : Statement (.buildframe ctype seq payload) :=
  (ofFields_and 3#4 0xF#4 seq 0#8 ctype.code 0#5).trans (by simp only [BitVec.and_zero]; rfl)

theorem send (bytes : List Byte) : Statement (.send bytes) :=
  (by decide : Word.ofFields 4#4 0#8 0#5 &&& 0xFFFFFFFF#32 = tableMatch .send)

theorem recv : Statement .recv := by unfold Statement; decide

theorem validate (reply : List Byte) : Statement (.validate reply) :=
  (by decide : Word.ofFields 6#4 0#8 0#5 &&& 0xFFFFFFFF#32 = tableMatch .validate)

theorem exec (seq : Byte) : Statement (.exec seq) :=
  (ofFields_and 7#4 0xF#4 seq 0#8 0#5 0x1F#5).trans (by simp only [BitVec.and_zero]; rfl)

theorem revb (bytes : List Byte) : Statement (.revb bytes) :=
  (by decide : Word.ofFields 8#4 0#8 0#5 &&& 0xFFFFFFFF#32 = tableMatch .revb)

theorem session : Statement .session := by unfold Statement; decide

theorem wrcfg (imm8 : Byte) : Statement (.wrcfg imm8) :=
  (ofFields_and 10#4 0xF#4 imm8 0#8 0#5 0x1F#5).trans (by simp only [BitVec.and_zero]; rfl)

theorem rdstat : Statement .rdstat := by unfold Statement; decide

theorem clrstat : Statement .clrstat := by unfold Statement; decide

end EncodeMatchesTable

end Sys2Proof.Laws
end

