-- ==== Sys2Proof/Laws/Step.lean ====
section
/-! SUPPORT. What a step can do, said once: the five things the block can do next, and that none of them stops. -/

namespace Sys2Proof.Machine

/-- Every meaning answers a next state: no failure is a trap (60_exceptions R171). -/
theorem exec_eq_next (i : Instr) (s : State) : ∃ t, exec i s = .next t := by
  cases i <;> exact ⟨_, rfl⟩

/-- What a step does, by what the block does next. -/
theorem step_cases (s : State) :
    (s.resetLine = true ∧ step s = .next s.applyReset) ∨
    (s.resetLine = false ∧ ∃ p, s.progress = some p ∧ step s = .next (resume p s.release)) ∨
    (s.resetLine = false ∧ s.progress = none ∧ s.host = [] ∧ step s = .next s) ∨
    (s.resetLine = false ∧ s.progress = none ∧ ∃ r rest i, s.host = r :: rest ∧ decode s.params.maxData r = .ok i ∧
      step s = exec i (s.setHost rest)) ∨
    (s.resetLine = false ∧ s.progress = none ∧ ∃ r rest e, s.host = r :: rest ∧ decode s.params.maxData r = .error e ∧
      step s = .next (s.setHost rest).raiseIllegal) := by
  cases hr : s.resetLine with
  | true => simp [step, State.activity, hr]
  | false =>
    cases hp : s.progress with
    | some p => simp [step, State.activity, hr, hp]
    | none =>
      cases hh : s.host with
      | nil => simp [step, State.activity, hr, hp, hh]
      | cons r rest =>
        cases hd : decode s.params.maxData r with
        | ok i => simp [step, State.activity, hr, hp, hh, hd]
        | error e => simp [step, State.activity, hr, hp, hh, hd]

end Sys2Proof.Machine
end

