-- ==== Sys2Proof/Laws/Transaction.lean ====
section
/-! SUPPORT. What a transaction that uses the transport can do to every field, said once for receiving, sending and going on
with a held request: it is answered with one response or it is held (00_scope R6, R7). -/

namespace Sys2Proof.Machine

/-- What receiving or sending does to a state without a request in progress. -/
structure Transaction (s t : State) : Prop where
  params : t.params = s.params
  first : t.first = s.first
  cfg : t.cfg = s.cfg
  host : t.host = s.host
  resetLine : t.resetLine = s.resetLine
  txScript : t.txScript = s.txScript
  rxScript : t.rxScript = s.rxScript
  wire : s.wire <+: t.wire
  /-- At most one read is made, and it returns at most RX_MAX bytes. -/
  reads : t.reads = s.reads ∨
    ∃ a, t.reads = s.reads ++ [a] ∧ ∀ reply, a = .ok reply → reply.length ≤ s.params.rxMax
  /-- Answered, with at most one flag; or held, without a response and without a flag. -/
  outcome :
    (t.progress = none ∧ ∃ r, t.responses = s.responses ++ [r] ∧
      ((r.tag = .ok ∧ t.sticky = s.sticky) ∨
        (r.tag = .negack ∧ s.strict = true ∧ t.sticky = s.sticky ||| stickyMask .nak) ∨
        (r = { tag := .error, bytes := sentinel } ∧
          ∃ b ∈ [StatusBit.txf, .rxf, .inv, .emp], t.sticky = s.sticky ||| stickyMask b))) ∨
    (t.responses = s.responses ∧ t.sticky = s.sticky ∧ ∃ p, t.progress = some p)

/-- A reply is judged negative in strict mode only (42_serial R120). -/
theorem strict_of_verdict_negative {p : Params} {strict : Bool} {reply : List Byte}
    (h : verdict p strict reply = .negative) : strict = true := by
  cases strict with
  | false => simp [verdict] at h
  | true => rfl

/-- Receiving is a transaction (42_serial R128, R129). -/
theorem receive_transaction (s : State) (hp : s.progress = none) : Transaction s (receive s) := by
  rcases receive_cases s with ⟨_, e⟩ | ⟨_, e⟩ | ⟨reply, h, e⟩
  · rw [e]; constructor <;> simp
  · rw [e]; constructor <;> simp [hp]
  · have hb : ∀ r, RxAnswer.ok reply = .ok r → r.length ≤ s.params.rxMax := by
      rintro r hr
      cases hr
      exact s.rxAnswer_length_le _ _ h
    rw [e]
    rcases State.judge_cases (s.tickRx.logRead (.ok reply)) reply with ⟨_, e⟩ | ⟨hv, e⟩ | ⟨_, e⟩ <;> rw [e]
    · constructor <;> simp [hp]; simpa using hb
    · have hs : s.strict = true := strict_of_verdict_negative hv
      constructor <;> simp [hp, hs]; simpa using hb
    · constructor <;> simp [hp]; simpa using hb

/-- The writes of SEND and EXEC, with what follows them, are a transaction (42_serial R124, R125, R131). -/
theorem transmit_transaction (frame : List Byte) (after : After) (w : List Byte) (s : State) (hp : s.progress = none) :
    Transaction s (transmit frame after w s) := by
  rcases transmit_cases frame after w s with ⟨_, e⟩ | ⟨k, _, _, ⟨_, e⟩ | ⟨_, e⟩ | ⟨_, e⟩⟩
  · rw [e]
    cases after with
    | respond => constructor <;> simp [afterSend, State.written, hp]
    | receive =>
      have h := receive_transaction (s.written w w.length) hp
      exact { h with wire := (by simp [State.written] : s.wire <+: (s.written w w.length).wire).trans h.wire }
  all_goals rw [e]; constructor <;> simp [State.written, hp]

/-- Sending a frame is a transaction (42_serial R124, R131). -/
theorem sendFrame_transaction (frame : List Byte) (after : After) (s : State) (hp : s.progress = none) :
    Transaction s (sendFrame frame after s) := by
  rcases sendFrame_cases frame after s with ⟨_, e⟩ | ⟨_, e⟩
  · rw [e]; constructor <;> simp [hp]
  · rw [e]; exact transmit_transaction _ _ _ _ hp

/-- Going on with a held request is a transaction (00_scope R7). -/
theorem resume_transaction (p : Progress) (s : State) : Transaction s.release (resume p s.release) := by
  cases p with
  | sending frame rest after => exact transmit_transaction _ _ _ _ rfl
  | receiving => exact receive_transaction _ rfl

end Sys2Proof.Machine
end

