-- ==== Sys2Proof/Tests/Slice0.lean ====
section
/-! SUPPORT. The model's own tests: ill-formed terms refused, words written out from the encoding, one step of each
instruction (expected values from 95_test_vectors), and one state for every set of hypotheses of the statements. -/

namespace Sys2Proof.Tests

open Sys2Proof.Machine

/-! ### Helpers -/

/-- An instance in the ranges of 00_scope R8. -/
def tab : CmdTab :=
  { loadText := { id := 0x11#8, tmpl := [0x01#8, 0x02#8] }
    loadBitmap := { id := 0x12#8, tmpl := [0x09#8, 0x08#8, 0x07#8] }
    cmd3 := { id := 0x13#8, tmpl := [] }
    cmd5 := { id := 0x14#8, tmpl := [] }
    cmdR := { id := 0x15#8, tmpl := [] }
    cmdX := { id := 0x16#8, tmpl := [] }
    cmdT := { id := 0x17#8, tmpl := [] }
    clearRam := { id := 0x18#8, tmpl := [] }
    posLoadBitmap := 1 }

/-- The parameters of 95_test_vectors, with MAX_DATA = 16 and RX_MAX = 4. -/
def par : Params :=
  { wakePreLen := 0, wakePost := [], cmdTab := tab, ackOffsets := [0], maxData := 16, rxMax := 4 }

/-- The reset state of that instance, with these scripted answers of TRANSPORT. -/
def st (tx : List (Option TxAnswer)) (rx : List (Option RxAnswer)) : State :=
  { State.reset with params := par, txScript := tx, rxScript := rx }

/-- `n` writes answered ok. -/
def oks (n : Nat) : List (Option TxAnswer) := List.replicate n (some .ok)

/-- What `f` shows of the next state, if there is one. -/
def shown {α : Type} (f : State → α) : Host.Outcome State Fault Refusal → Option α
  | .next t => some (f t)
  | .fault _ => none
  | .refused _ => none

/-- The responses after an outcome. -/
def resp : Host.Outcome State Fault Refusal → Option (List Response) := shown State.responses

/-- The frame of 95_test_vectors F1. -/
def frameF1 : List Byte :=
  [0x00#8, 0xFF#8, 0x1B#8, 0x01#8, 0x05#8, 0x00#8, 0x00#8, 0x57#8, 0x05#8, 0x7D#8, 0x0D#8, 0x0A#8, 0x55#8, 0x00#8]

/-- The frame of 95_test_vectors F3. -/
def frameF3 : List Byte := [0x1B#8, 0x01#8, 0x05#8, 0x57#8, 0x05#8, 0x7D#8, 0x0D#8, 0x0A#8, 0x55#8, 0x00#8]

/-! ### Well-formedness: each check refuses an ill-formed term -/

theorem test_wf_unknown_code_is_not_a_named_one : (CType.unknown 17#5).wf = false := by decide
theorem test_wf_unknown_code : (CType.unknown 19#5).wf = true := by decide
theorem test_wf_build_ctype : (Instr.build (.unknown 0#5) 0#8 []).wf 4 = false := by decide
theorem test_wf_build_data : (Instr.build (.named .cmdW) 0#8 [1#8, 2#8]).wf 1 = false := by decide
theorem test_wf_frame_data : (Instr.frame 0#8 [1#8, 2#8]).wf 1 = false := by decide
theorem test_wf_buildframe_ctype : (Instr.buildframe (.unknown 21#5) 0#8 []).wf 4 = false := by decide
theorem test_wf_buildframe_data : (Instr.buildframe (.named .cmdW) 0#8 [1#8, 2#8]).wf 1 = false := by decide
theorem test_wf_send_data : (Instr.send [1#8, 2#8]).wf 1 = false := by decide
theorem test_wf_validate_data : (Instr.validate [1#8, 2#8]).wf 1 = false := by decide
theorem test_wf_revb_data : (Instr.revb [1#8, 2#8]).wf 1 = false := by decide
theorem test_wf_params : par.wf = true := by decide
theorem test_wf_params_template_of_ten :
    { par with cmdTab := { tab with cmdT := { id := 0#8, tmpl := List.replicate 10 0#8 } } }.wf = false := by decide
theorem test_wf_params_placeholder_outside : { par with cmdTab := { tab with posLoadBitmap := 3 } }.wf = false := by decide
theorem test_wf_params_no_offset : { par with ackOffsets := [] }.wf = false := by decide
theorem test_wf_params_max_data_zero : { par with maxData := 0 }.wf = false := by decide
theorem test_wf_params_rx_max_zero : { par with rxMax := 0 }.wf = false := by decide

/-! ### Words written out from the encoding of 30_encoding R60 and R65: RSV1, CTYPE, SEQ, RSV0, OP -/

theorem test_decode_build : decode 16 { word := 0b00000000000_10001_00000101_0000_0001#32, data := [] }
    = .ok (.build (.named .cmdW) 5#8 []) := by decide
theorem test_decode_build_unknown : decode 16 { word := 0b00000000000_11111_00000000_0000_0001#32, data := [] }
    = .ok (.build (.unknown 31#5) 0#8 []) := by decide
theorem test_decode_frame : decode 16 { word := 0b00000000000_00000_11111111_0000_0010#32, data := [0x57#8, 0xFF#8] }
    = .ok (.frame 0xFF#8 [0x57#8, 0xFF#8]) := by decide
theorem test_decode_buildframe : decode 16 { word := 0b00000000000_00001_10000000_0000_0011#32, data := [0xAA#8] }
    = .ok (.buildframe (.named .loadBitmap) 0x80#8 [0xAA#8]) := by decide
theorem test_decode_send : decode 16 { word := 0b00000000000_00000_00000000_0000_0100#32, data := [0x57#8] }
    = .ok (.send [0x57#8]) := by decide
theorem test_decode_recv : decode 16 { word := 0b00000000000_00000_00000000_0000_0101#32, data := [] }
    = .ok .recv := by decide
theorem test_decode_validate : decode 16 { word := 0b00000000000_00000_00000000_0000_0110#32, data := [0x15#8] }
    = .ok (.validate [0x15#8]) := by decide
theorem test_decode_exec : decode 16 { word := 0b00000000000_00000_00000110_0000_0111#32, data := [] }
    = .ok (.exec 6#8) := by decide
theorem test_decode_revb : decode 16 { word := 0b00000000000_00000_00000000_0000_1000#32, data := [0x01#8] }
    = .ok (.revb [0x01#8]) := by decide
theorem test_decode_session : decode 16 { word := 0b00000000000_00000_00000000_0000_1001#32, data := [] }
    = .ok .session := by decide
theorem test_decode_wrcfg : decode 16 { word := 0b00000000000_00000_11111110_0000_1010#32, data := [] }
    = .ok (.wrcfg 0xFE#8) := by decide
theorem test_decode_rdstat : decode 16 { word := 0b00000000000_00000_00000000_0000_1011#32, data := [] }
    = .ok .rdstat := by decide
theorem test_decode_clrstat : decode 16 { word := 0b00000000000_00000_00000000_0000_1100#32, data := [] }
    = .ok .clrstat := by decide
/-- 95_test_vectors I1 to I10: each illegal request is refused by name. -/
theorem test_decode_illegal :
    ([(0x00000000, []), (0x0000000D, []), (0x0000000E, []), (0x0000000F, []), (0x00000010, []), (0x00200001, []),
      (0x80000001, []), (0x00010502, [0x57#8]), (0x0000010B, []), (0x00000005, [0x01#8]), (0x0000000A, [0x01#8]),
      (0x00000001, List.replicate 17 0#8)] : List (Nat × List Byte)).map
        (fun x => decode 16 { word := BitVec.ofNat 32 x.1, data := x.2 })
      = [.error .reservedOp, .error .reservedOp, .error .reservedOp, .error .reservedOp, .error .reservedOp,
        .error .reservedBits, .error .reservedBits, .error .unusedField, .error .unusedField, .error .dataNotTaken,
        .error .dataNotTaken, .error .dataTooLong] := by decide
theorem test_encode_build : encode (.build (.named .cmdW) 6#8 [0x0D#8]) = { word := 0x00110601#32, data := [0x0D#8] } := by
  decide
theorem test_encode_wrcfg : encode (.wrcfg 0xFE#8) = { word := 0x0000FE0A#32, data := [] } := by decide
theorem test_assemble_buildframe :
    assemble { op := .buildframe, operands := [.name .cmdW, .num 7, .data [1, 255]] }
      = some { word := 0x00110703#32, data := [0x01#8, 0xFF#8] } := by decide
theorem test_assemble_number_out_of_range : assemble { op := .exec, operands := [.num 256] } = none := by decide
theorem test_text_buildframe :
    assembleText ("BUILDFRAME CmdW, 0x07, ".toList ++ [Char.ofNat 123] ++ "1, 0xfF".toList ++ [Char.ofNat 125])
      = some (.request { word := 0x00110703#32, data := [0x01#8, 0xFF#8] }) := by decide
theorem test_text_pseudo :
    assembleText "STRICT ON".toList = some (.request { word := 0x0000010A#32, data := [] })
      ∧ assembleText "SENDCMD 17, 7".toList = some (.sendcmd { word := 0x00110703#32, data := [] }) := by decide
theorem test_text_errors :
    ["EXEC 256", "BUILD CmdZ, 1", "RECV 1", "exec 1", "EXEC 0x", "WRCFG 1,"].map (fun l => assembleText l.toList)
      = [none, none, none, none, none, none] := by decide

/-! ### The host's view -/

theorem test_table_word : decodeTableWord 32 0x00000507 = some (.exec 5#8) := by decide
theorem test_fetch_word_runs_first :
    resp (step (State.reset.withFetchWord 32 0x0000000B)) = some [{ tag := .ok, bytes := [0x01#8, 0x00#8] }] := by decide

/-! ### One step of each instruction, from the vectors of 95_test_vectors -/

theorem test_build_b1 : resp (exec (.build (.named .cmdW) 5#8 []) (st [] []))
    = some [{ tag := .ok, bytes := [0x57#8, 0x05#8] }] := by decide
theorem test_build_b6_unknown_strict :
    shown (fun t => (t.responses, t.status)) (exec (.build (.unknown 2#5) 9#8 [0xAA#8, 0xBB#8]) { st [] [] with cfg := 1#8 })
      = some ([{ tag := .ok, bytes := [0xAA#8, 0xBB#8] }], 0x05#8) := by decide
theorem test_frame_f1 : shown (fun t => (t.responses, t.first)) (exec (.frame 5#8 [0x57#8, 0x05#8]) (st [] []))
    = some ([{ tag := .ok, bytes := frameF1 }], false) := by decide
theorem test_frame_f10_wraps : resp (exec (.frame 0xE4#8 [0xFF#8, 0xFF#8, 0xFF#8]) { st [] [] with first := false })
    = some [{ tag := .ok, bytes :=
        [0x1B#8, 0x01#8, 0xE4#8, 0xFF#8, 0xFF#8, 0xFF#8, 0xFD#8, 0x0D#8, 0x0A#8, 0x55#8, 0x00#8] }] := by decide
theorem test_buildframe_bf1 : shown (fun t => (t.responses, t.first)) (exec (.buildframe (.named .cmdW) 5#8 []) (st [] []))
    = some ([{ tag := .ok, bytes := frameF1 }], false) := by decide
theorem test_buildframe_bf4_unknown_strict :
    shown (fun t => (t.responses, t.status)) (exec (.buildframe (.unknown 4#5) 0#8 []) { st [] [] with cfg := 1#8 })
      = some ([{ tag := .ok, bytes :=
        [0x00#8, 0xFF#8, 0x1B#8, 0x01#8, 0x00#8, 0x00#8, 0x00#8, 0x1C#8, 0x0D#8, 0x0A#8, 0x55#8, 0x00#8] }], 0x04#8) := by
  decide
theorem test_send_s3_wake_bytes :
    shown (fun t => (t.responses, t.wire))
        (exec (.send frameF3) { st (oks 13) [] with params := { par with wakePreLen := 2, wakePost := [0x00#8] } })
      = some ([{ tag := .ok, bytes := frameF3 }], [0x55#8, 0x55#8] ++ frameF3 ++ [0x00#8]) := by decide
theorem test_send_s6_third_write_fails :
    shown (fun t => (t.responses, t.wire, t.status)) (exec (.send frameF3) (st (oks 2 ++ [some .failSent]) []))
      = some ([{ tag := .error, bytes := sentinel }], [0x1B#8, 0x01#8, 0x05#8], 0x09#8) := by decide
theorem test_recv_rx11_negative :
    shown (fun t => (t.responses, t.status))
        (exec .recv { st [] [some (.ok [0x00#8, 0x06#8, 0x00#8, 0x15#8])] with
          cfg := 1#8, params := { par with ackOffsets := [1, 3] } })
      = some ([{ tag := .negack, bytes := [0x00#8, 0x06#8, 0x00#8, 0x15#8] }], 0x21#8) := by decide
theorem test_recv_rx12_too_short :
    shown (fun t => (t.responses, t.status))
        (exec .recv { st [] [some (.ok [0x00#8, 0x06#8, 0x00#8])] with
          cfg := 1#8, params := { par with ackOffsets := [1, 3] } })
      = some ([{ tag := .error, bytes := sentinel }], 0x41#8) := by decide
theorem test_validate_permissive : resp (exec (.validate [0x15#8]) (st [] []))
    = some [{ tag := .ok, bytes := [0x01#8] }] := by decide
theorem test_validate_strict_negative : resp (exec (.validate [0x15#8]) { st [] [] with cfg := 1#8 })
    = some [{ tag := .ok, bytes := [0x02#8] }] := by decide
theorem test_exec_e1 :
    shown (fun t => (t.responses, t.wire, t.status)) (exec (.exec 5#8) (st (oks 14) [some (.ok [0x06#8])]))
      = some ([{ tag := .ok, bytes := [0x06#8] }], frameF1, 0x00#8) := by decide
theorem test_exec_e3_failed_send :
    shown (fun t => (t.responses, t.wire, t.reads, t.status)) (exec (.exec 5#8) (st [some .failLost] [some (.ok [0x06#8])]))
      = some ([{ tag := .error, bytes := sentinel }], [], [], 0x08#8) := by decide
theorem test_revb_rv2 :
    resp (exec (.revb [0x01#8, 0x80#8, 0x55#8, 0x0F#8, 0x57#8, 0x1B#8, 0x06#8, 0x15#8, 0x12#8]) (st [] []))
      = some [{ tag := .ok, bytes := [0x80#8, 0x01#8, 0xAA#8, 0xF0#8, 0xEA#8, 0xD8#8, 0x60#8, 0xA8#8, 0x48#8] }] := by decide
theorem test_session_k2 : shown State.status (exec .session { st [] [] with first := false }) = some 0x01#8 := by decide
theorem test_wrcfg_k4 : shown State.cfg (exec (.wrcfg 0xFE#8) { st [] [] with cfg := 1#8 }) = some 0x00#8 := by decide
theorem test_wrcfg_k5 : shown State.cfg (exec (.wrcfg 0xFF#8) (st [] [])) = some 0x01#8 := by decide
theorem test_rdstat_p3 : resp (exec .rdstat { st [] [] with cfg := 1#8, sticky := 0b0110010#7 })
    = some [{ tag := .ok, bytes := [0x65#8, 0x01#8] }] := by decide
theorem test_clrstat_k6 : shown State.status (exec .clrstat { st [] [] with sticky := 0b0000101#7 }) = some 0x01#8 := by
  decide
theorem test_illegal_p6 :
    shown (fun t => (t.responses, t.status, t.first, t.host))
        (step { st [] [] with host := [{ word := 0x00010502#32, data := [0x57#8] }] })
      = some ([{ tag := .error, bytes := sentinel }], 0x03#8, true, []) := by decide

/-! ### One state for every set of hypotheses of the statements -/

/-- A request for FRAME 5 with the command bytes 57 05. -/
def reqFrame : Request := { word := 0x00000502#32, data := [0x57#8, 0x05#8] }

/-- A state that holds SEND of two bytes, one of them written. -/
def heldSend (tx : List (Option TxAnswer)) (after : After) : State :=
  { st tx [] with
    progress := some (.sending [0x57#8, 0x05#8] [0x05#8] after), wire := [0x57#8], txPolls := 1, host := [reqFrame] }

/-- A state that holds RECV. -/
def heldRecv (rx : List (Option RxAnswer)) : State := { st [] rx with progress := some .receiving }

theorem witness_DecodeOfEncodeIsTheInstruction : (Instr.build (.unknown 31#5) 0xFF#8 [0#8, 1#8]).wf 2 = true := by decide
theorem witness_LegalRequestIsItsEncoding : decode 2 reqFrame = .ok (.frame 5#8 [0x57#8, 0x05#8]) := by decide
theorem witness_CtypeCodesSelectTheirTypes : ([0#8, 1#8] : List Byte).length ≤ 2 := by decide
/-- A line that assembles, with every kind of operand at an end of its range, and operands that make one assemble. -/
theorem witness_AssembledLinesAreLegal :
    (assemble { op := .buildframe, operands := [.num 31, .num 255, .data [0, 255]] }
        = some { word := 0x001FFF03#32, data := [0x00#8, 0xFF#8] }
      ∧ ([0x00#8, 0xFF#8] : List Byte).length ≤ 2)
      ∧ ((if Op.build.usesCtype = true then
            (∃ t, [AsmOperand.name .cmdW] = [.name t]) ∨ ∃ n ≤ 31, [AsmOperand.name .cmdW] = [.num n]
          else [AsmOperand.name .cmdW] = [])
        ∧ (if Op.build.usesSeq = true then ∃ n ≤ 255, [AsmOperand.num 255] = [.num n] else [AsmOperand.num 255] = [])
        ∧ (([AsmOperand.data [87]] : List AsmOperand) = [] ∨ (Op.build.takesData = true
          ∧ ∃ bytes, [AsmOperand.data [87]] = [.data bytes] ∧ ∀ n ∈ bytes, n ≤ 255))) :=
  ⟨by decide, .inl ⟨.cmdW, rfl⟩, ⟨255, by decide, rfl⟩, .inr ⟨rfl, [87], rfl, by decide⟩⟩
theorem witness_PseudoInstructionsExpand :
    ({ tag := .ok, bytes := [] } : Response).tag = .ok ∧ ({ tag := .error, bytes := sentinel } : Response).tag ≠ .ok := by
  decide
theorem witness_StepRunsTheDecodedInstruction :
    (st [] []).resetLine = false ∧ (st [] []).progress = none
      ∧ { st [] [] with host := [reqFrame] }.host = [reqFrame]
      ∧ decode { st [] [] with host := [reqFrame] }.params.maxData reqFrame = .ok (.frame 5#8 [0x57#8, 0x05#8]) := by
  decide
theorem witness_IllegalRequestOnlySetsIll :
    (st [] []).resetLine = false ∧ (st [] []).progress = none
      ∧ { st [] [] with host := [{ word := 0#32, data := [] }] }.host = [{ word := 0#32, data := [] }]
      ∧ decode (st [] []).params.maxData { word := 0#32, data := [] } = .error .reservedOp := by decide
theorem witness_ResetStateWaitsForARequest :
    { st [] [] with resetLine := true }.resetLine = true
      ∧ (st [] []).resetLine = false ∧ (st [] []).progress = none ∧ (st [] []).host = [] := by decide
theorem witness_ResetAbandonsTheRequest :
    { heldRecv [] with resetLine := true }.resetLine = true
      ∧ { heldRecv [] with resetLine := true }.progress = some .receiving := by decide
/-- A held request that stays held, and one that ends. -/
theorem witness_HeldRequestKeepsThePort :
    (heldSend [some .ok, none] .respond).resetLine = false
      ∧ (heldSend [some .ok, none] .respond).progress = some (.sending [0x57#8, 0x05#8] [0x05#8] .respond)
      ∧ (shown State.progress (step (heldSend [some .ok, none] .respond))
          = some (some (.sending [0x57#8, 0x05#8] [0x05#8] .respond)))
      ∧ shown State.progress (step (heldSend [some .ok, some .ok] .respond)) = some none := by decide
/-- A set bit over a step that is not CLRSTAT; CLRSTAT; reset. -/
theorem witness_StickyBitsStayUntilCleared :
    (∃ t, step { st [] [] with sticky := 0x40#7, host := [reqFrame] } = .next t
        ∧ { st [] [] with sticky := 0x40#7, host := [reqFrame] }.nextInstr ≠ some .clrstat
        ∧ { st [] [] with sticky := 0x40#7, host := [reqFrame] }.status.getLsbD 7 = true)
      ∧ (∃ t, step { st [] [] with sticky := 0x40#7, host := [encode .clrstat] } = .next t
        ∧ { st [] [] with sticky := 0x40#7, host := [encode .clrstat] }.nextInstr = some .clrstat)
      ∧ ∃ t, step { st [] [] with sticky := 0x01#7, resetLine := true } = .next t :=
  ⟨⟨_, rfl, by decide, by decide⟩, ⟨_, rfl, by decide⟩, ⟨_, rfl⟩⟩
/-- FIRST cleared by FRAME and set by SESSION. -/
theorem witness_FirstIsWrittenOnlyByFramesAndSession :
    (∃ t, step { st [] [] with host := [reqFrame] } = .next t ∧ t.first ≠ (st [] []).first)
      ∧ ∃ t, step { st [] [] with first := false, host := [encode .session] } = .next t ∧ t.first ≠ false :=
  ⟨⟨_, rfl, by decide⟩, ⟨_, rfl, by decide⟩⟩
theorem witness_CfgIsWrittenOnlyByWrcfg :
    ∃ t, step { st [] [] with host := [encode .rdstat] } = .next t
      ∧ ∀ v, { st [] [] with host := [encode .rdstat] }.nextInstr ≠ some (.wrcfg v) :=
  ⟨_, rfl, by decide⟩
theorem witness_NoStepWritesTheInstance : ∃ t, step { st [] [] with host := [reqFrame] } = .next t := ⟨_, rfl⟩
theorem witness_BuildLayoutOfNamedType : cmdPos par .loadBitmap ≠ some 0 ∧ cmdPos par .loadText ≠ some 0 := by decide
theorem witness_DescriptorReplacesOnlyThePlaceholder :
    par.wf = true ∧ (2 : Nat) ≠ par.cmdTab.posLoadBitmap ∧ CmdType.cmdX ≠ .loadBitmap ∧ CmdType.cmdX ≠ .cmdW := by decide
theorem witness_LongestBuildResultIsNoFrameOperand : (List.replicate 16 0#8 : List Byte).length = par.maxData := by decide
theorem witness_FrameOfFirstLayout : (st [] []).first = true := by decide
theorem witness_FrameOfLaterLayout : { st [] [] with first := false }.first = false := by decide
theorem witness_SendWritesAndEchoes :
    ([0x57#8] : List Byte) ≠ []
      ∧ ([0x57#8] : List Byte) = List.replicate (st (oks 1) []).params.wakePreLen 0x55#8 ++ [0x57#8]
        ++ (st (oks 1) []).params.wakePost
      ∧ ∀ j < ([0x57#8] : List Byte).length, (st (oks 1) []).txAnswer ((st (oks 1) []).txPolls + j) = some .ok := by decide
/-- The first write fails; the last one fails. -/
theorem witness_SendEndsAtTheFirstFailedWrite :
    ((0 : Nat) < ([0x57#8] : List Byte).length ∧ (st [some .failLost] []).txAnswer 0 = some .failLost)
      ∧ (9 < frameF3.length ∧ (∀ j < 9, (st (oks 9 ++ [some .failSent]) []).txAnswer j = some .ok)
        ∧ (st (oks 9 ++ [some .failSent]) []).txAnswer 9 = some .failSent) := by decide
/-- The last write of SEND is not answered; a read is not answered; the first write of EXEC, its last one and its read are not
answered. -/
theorem witness_UnansweredTransportRequestIsHeld :
    (9 < frameF3.length ∧ (∀ j < 9, (st (oks 9 ++ [none]) []).txAnswer j = some .ok)
        ∧ (st (oks 9 ++ [none]) []).txAnswer 9 = none)
      ∧ (st [] [none]).rxAnswer (st [] [none]).rxPolls = none
      ∧ frameF1 = (if (st [] []).first = true then
          [0x00#8, 0xFF#8, 0x1B#8, 0x01#8, 5#8, 0x00#8, 0x00#8] else [0x1B#8, 0x01#8, 5#8])
        ++ [0x57#8, 5#8, BitVec.ofNat 8 (0x73 + 2 * (5#8).toNat), 0x0D#8, 0x0A#8, 0x55#8, 0x00#8]
      ∧ frameF1 = List.replicate (st [] []).params.wakePreLen 0x55#8 ++ frameF1 ++ (st [] []).params.wakePost
      ∧ (0 < frameF1.length ∧ (st [none] []).txAnswer 0 = none)
      ∧ (13 < frameF1.length ∧ (∀ j < 13, (st (oks 13 ++ [none]) []).txAnswer j = some .ok)
        ∧ (st (oks 13 ++ [none]) []).txAnswer 13 = none)
      ∧ (∀ j < frameF1.length, (st (oks 14) [none]).txAnswer j = some .ok) ∧ (st (oks 14) [none]).rxAnswer 0 = none := by
  decide
theorem witness_RecvOfFailedRead : (st [] [some .fail]).rxAnswer (st [] [some .fail]).rxPolls = some .fail := by decide
/-- The longest reply. -/
theorem witness_RecvInPermissiveMode :
    (st [] [some (.ok [1#8, 2#8, 3#8, 4#8, 5#8])]).cfg.getLsbD 0 = false
      ∧ (st [] [some (.ok [1#8, 2#8, 3#8, 4#8, 5#8])]).rxAnswer 0 = some (.ok [1#8, 2#8, 3#8, 4#8]) := by decide
/-- A positive, a negative, a short and an unmarked reply in strict mode. -/
theorem witness_RecvInStrictMode :
    { st [] [] with cfg := 1#8 }.cfg.getLsbD 0 = true
      ∧ ([[0x06#8], [0x15#8], [], [0x41#8]] : List (List Byte)).map (fun r => (st [] [some (.ok r)]).rxAnswer 0)
        = [some (.ok [0x06#8]), some (.ok [0x15#8]), some (.ok []), some (.ok [0x41#8])]
      ∧ (∀ o ∈ par.ackOffsets, ([0x06#8] : List Byte)[o]? = some 0x06#8)
      ∧ ((∀ o ∈ par.ackOffsets, o < ([0x15#8] : List Byte).length)
        ∧ (∃ o ∈ par.ackOffsets, ([0x15#8] : List Byte)[o]? ≠ some 0x06#8)
        ∧ ∃ o ∈ par.ackOffsets, ([0x15#8] : List Byte)[o]? = some 0x15#8)
      ∧ (∃ o ∈ par.ackOffsets, ([] : List Byte).length ≤ o)
      ∧ (∃ o ∈ par.ackOffsets, ([0x41#8] : List Byte)[o]? ≠ some 0x06#8)
      ∧ ∀ o ∈ par.ackOffsets, ([0x41#8] : List Byte)[o]? ≠ some 0x15#8 := by decide
/-- A reply one byte too short, a positive, a negative and an unmarked one, at the offsets 1 and 3. -/
theorem witness_StrictVerdictByMarkers :
    (∃ o ∈ [1, 3], ([0#8, 6#8, 0#8] : List Byte).length ≤ o)
      ∧ (∀ o ∈ [1, 3], o < ([0#8, 6#8, 0#8, 6#8] : List Byte).length)
      ∧ (∀ o ∈ [1, 3], ([0#8, 6#8, 0#8, 6#8] : List Byte)[o]? = some 0x06#8)
      ∧ (∃ o ∈ [1, 3], ([0#8, 6#8, 0#8, 0x15#8] : List Byte)[o]? ≠ some 0x06#8)
      ∧ (∃ o ∈ [1, 3], ([0#8, 6#8, 0#8, 0x15#8] : List Byte)[o]? = some 0x15#8)
      ∧ (∃ o ∈ [1, 3], ([0#8, 6#8, 0#8, 0x41#8] : List Byte)[o]? ≠ some 0x06#8)
      ∧ (∀ o ∈ [1, 3], ([0#8, 6#8, 0#8, 0x41#8] : List Byte)[o]? ≠ some 0x15#8)
      ∧ ([1, 3] : List Nat) ≠ [] := by decide
theorem witness_PermissiveModeAcceptsEverything : (st [] []).cfg.getLsbD 0 = false := by decide
/-- Both layouts of EXEC's frame, with every write answered ok and the read answered. -/
theorem witness_ExecReturnsTheReply :
    0x7D#8 = BitVec.ofNat 8 (0x73 + 2 * (5#8).toNat)
      ∧ frameF1 = (if (st (oks 14) []).first = true then
          [0x00#8, 0xFF#8, 0x1B#8, 0x01#8, 5#8, 0x00#8, 0x00#8] else [0x1B#8, 0x01#8, 5#8])
        ++ [0x57#8, 5#8, 0x7D#8, 0x0D#8, 0x0A#8, 0x55#8, 0x00#8]
      ∧ frameF3 = (if { st (oks 10) [] with first := false }.first = true then
          [0x00#8, 0xFF#8, 0x1B#8, 0x01#8, 5#8, 0x00#8, 0x00#8] else [0x1B#8, 0x01#8, 5#8])
        ++ [0x57#8, 5#8, 0x7D#8, 0x0D#8, 0x0A#8, 0x55#8, 0x00#8]
      ∧ frameF1 = List.replicate (st (oks 14) []).params.wakePreLen 0x55#8 ++ frameF1 ++ (st (oks 14) []).params.wakePost
      ∧ (∀ j < frameF1.length, (st (oks 14) []).txAnswer ((st (oks 14) []).txPolls + j) = some .ok)
      ∧ (st (oks 14) [some (.ok [0x06#8])]).cfg.getLsbD 0 = false
      ∧ (st (oks 14) [some (.ok [0x06#8])]).rxAnswer 0 = some (.ok [0x06#8]) := by decide
/-- The same hypotheses without those on the read. -/
theorem witness_ExecSendsThenReceives :
    frameF1 = (if (st (oks 14) []).first = true then
          [0x00#8, 0xFF#8, 0x1B#8, 0x01#8, 5#8, 0x00#8, 0x00#8] else [0x1B#8, 0x01#8, 5#8])
        ++ [0x57#8, 5#8, BitVec.ofNat 8 (0x73 + 2 * (5#8).toNat), 0x0D#8, 0x0A#8, 0x55#8, 0x00#8]
      ∧ frameF1 = List.replicate (st (oks 14) []).params.wakePreLen 0x55#8 ++ frameF1 ++ (st (oks 14) []).params.wakePost
      ∧ ∀ j < frameF1.length, (st (oks 14) []).txAnswer ((st (oks 14) []).txPolls + j) = some .ok := by decide
/-- The last write fails, with its byte not on the line and with its byte on it; the first one fails. -/
theorem witness_ExecWithFailedSendReadsNothing :
    frameF1 = (if (st [] []).first = true then
          [0x00#8, 0xFF#8, 0x1B#8, 0x01#8, 5#8, 0x00#8, 0x00#8] else [0x1B#8, 0x01#8, 5#8])
        ++ [0x57#8, 5#8, BitVec.ofNat 8 (0x73 + 2 * (5#8).toNat), 0x0D#8, 0x0A#8, 0x55#8, 0x00#8]
      ∧ frameF1 = List.replicate (st [] []).params.wakePreLen 0x55#8 ++ frameF1 ++ (st [] []).params.wakePost
      ∧ 13 < frameF1.length
      ∧ (∀ j < 13, (st (oks 13 ++ [some .failLost]) []).txAnswer (0 + j) = some .ok)
      ∧ (st (oks 13 ++ [some .failLost]) []).txAnswer (0 + 13) = some .failLost
      ∧ (∀ j < 13, (st (oks 13 ++ [some .failSent]) []).txAnswer (0 + j) = some .ok)
      ∧ (st (oks 13 ++ [some .failSent]) []).txAnswer (0 + 13) = some .failSent
      ∧ (st [some .failSent] []).txAnswer (0 + 0) = some .failSent := by decide
theorem witness_RevbReversesEveryByte :
    ([0x01#8, 0x57#8] : List Byte)[1]? = some 0x57#8 ∧ ([0x80#8, 0xEA#8] : List Byte)[1]? = some 0xEA#8
      ∧ resp (exec (.revb [0x01#8, 0x57#8]) (st [] [])) = some [{ tag := .ok, bytes := [0x80#8, 0xEA#8] }] := by decide
theorem witness_EveryRequestGetsOneResponse :
    { st [] [] with host := [reqFrame] }.resetLine = false ∧ { st [] [] with host := [reqFrame] }.requestCount = 1 := by
  decide
theorem witness_OutputsOnlyGrow : ∃ t, step (heldSend [some .ok, some .ok] .respond) = .next t := ⟨_, rfl⟩
theorem witness_OnlySendRecvExecTouchTheTransport :
    (Instr.revb []).op ∉ [Op.send, Op.recv, Op.exec] := by decide
/-- Two states with the same FIRST for FRAME and BUILDFRAME; two for EXEC, with other wake bytes. -/
theorem witness_FrameBytesDependOnFirstAlone :
    (Instr.frame 0#8 []).op ∈ [Op.frame, Op.buildframe] ∧ (Instr.buildframe (.named .cmdW) 0#8 []).op ∈ [Op.frame, Op.buildframe]
      ∧ (st [] []).first = { st [] [] with cfg := 1#8, sticky := 0x7F#7, wire := [1#8] }.first
      ∧ (st [] []).params.cmdTab
        = { st [] [] with cfg := 1#8, sticky := 0x7F#7, wire := [1#8], params := { par with maxData := 1 } }.params.cmdTab
      ∧ (st (oks 14) []).first = true
      ∧ (∀ j < frameF1.length, (st (oks 14) []).txAnswer ((st (oks 14) []).txPolls + j) = some .ok)
      ∧ { st [] [] with params := { par with wakePreLen := 2 } }.first = true := by
  decide
/-- A step with an ERROR response, and one with a NEGACK response. -/
theorem witness_FailuresAreFlagged :
    (∃ t r, step { st [] [] with host := [encode (.send [])] } = .next t ∧ t.responses = [] ++ [r] ∧ r.tag = .error)
      ∧ ∃ t r, step { st [] [some (.ok [0x15#8])] with cfg := 1#8, host := [encode .recv] } = .next t
        ∧ t.responses = [] ++ [r] ∧ r.tag = .negack :=
  ⟨⟨_, { tag := .error, bytes := sentinel }, rfl, by decide, rfl⟩,
    ⟨_, { tag := .negack, bytes := [0x15#8] }, rfl, by decide, rfl⟩⟩
/-- A state with a held request, an ERROR response and a read has the invariant, and steps. -/
theorem witness_EveryStepKeepsTheInvariant :
    State.Inv { heldSend [some .ok, some .ok] .respond with
        responses := [{ tag := .error, bytes := sentinel }], reads := [.ok [1#8, 2#8, 3#8, 4#8]] }
      ∧ ∃ t, step { heldSend [some .ok, some .ok] .respond with
        responses := [{ tag := .error, bytes := sentinel }], reads := [.ok [1#8, 2#8, 3#8, 4#8]] } = .next t := by
  refine ⟨⟨by decide, by decide, ?_, by decide, ?_⟩, ⟨_, rfl⟩⟩
  · intro p hp
    obtain rfl : Progress.sending [0x57#8, 0x05#8] [0x05#8] .respond = p := Option.some.inj hp
    exact ⟨by decide, by decide, ⟨[0x57#8], by decide⟩, by decide⟩
  · intro reply h
    obtain rfl : reply = [1#8, 2#8, 3#8, 4#8] := by simpa using h
    decide
/-- The write that is left of SEND and of EXEC is answered ok; a held read; that write fails in either way, or is not
answered. -/
theorem witness_HeldRequestGoesOnWhereItStopped :
    (heldSend (oks 2) .respond).progress = some (.sending [0x57#8, 0x05#8] [0x05#8] .respond)
      ∧ (heldSend (oks 2) .receive).progress = some (.sending [0x57#8, 0x05#8] [0x05#8] .receive)
      ∧ (∀ j < ([0x05#8] : List Byte).length,
        (heldSend (oks 2) .receive).txAnswer ((heldSend (oks 2) .receive).txPolls + j) = some .ok)
      ∧ (heldRecv []).progress = some .receiving ∧ (heldRecv []).resetLine = false
      ∧ 0 < ([0x05#8] : List Byte).length
      ∧ (heldSend [some .ok, some .failLost] .receive).txAnswer (1 + 0) = some .failLost
      ∧ (heldSend [some .ok, some .failSent] .respond).txAnswer (1 + 0) = some .failSent
      ∧ (heldSend [some .ok, none] .receive).txAnswer (1 + 0) = none := by decide
theorem witness_SilentTransportHoldsTheRequest :
    (heldSend [some .ok, none, none] .respond).resetLine = false
      ∧ (heldSend [some .ok, none, none] .respond).progress = some (.sending [0x57#8, 0x05#8] ([0x05#8] : List Byte) .respond)
      ∧ (∀ j < 2, (heldSend [some .ok, none, none] .respond).txAnswer (1 + j) = none)
      ∧ (heldRecv [none, none]).progress = some .receiving
      ∧ ∀ j < 2, (heldRecv [none, none]).rxAnswer ((heldRecv [none, none]).rxPolls + j) = none := by decide

end Sys2Proof.Tests
end

section
/-! # Requests that wait on TRANSPORT

Where a write or a read is not answered, SEND, RECV and EXEC hold the request, and a later step goes on from there
(00_scope R7; log entry 4). The three ways a transmission stops at a byte are each one rule, cited by SEND, by EXEC and by
the step of a held request. -/

namespace Sys2Proof.Machine

/-! ### One rule for each answer of TRANSPORT -/

/-- The state once all of `w` has been written (42_serial R124). -/
theorem State.written_length (s : State) (w : List Byte) :
    s.written w w.length = { s with wire := s.wire ++ w, txPolls := s.txPolls + w.length } := by
  simp [State.written]

/-- A write that is not answered holds the transmission at its byte (00_scope R7). -/
theorem transmit_of_unanswered {w : List Byte} {s : State} {k : Nat} (frame : List Byte) (after : After)
    (hk : k < w.length) (hok : ∀ j < k, s.txAnswer (s.txPolls + j) = some .ok)
    (hnone : s.txAnswer (s.txPolls + k) = none) :
    transmit frame after w s = (s.written w k).tickTx.hold (.sending frame (w.drop k) after) := by
  simpa [hnone] using transmit_of_not_ok frame after hk hok (by simp [hnone])

/-- A failed write that loses its byte ends the transmission before that byte (42_serial R125). -/
theorem transmit_of_failLost {w : List Byte} {s : State} {k : Nat} (frame : List Byte) (after : After)
    (hk : k < w.length) (hok : ∀ j < k, s.txAnswer (s.txPolls + j) = some .ok)
    (hlost : s.txAnswer (s.txPolls + k) = some .failLost) :
    transmit frame after w s = (s.written w k).tickTx.fail .txf := by
  simpa [hlost] using transmit_of_not_ok frame after hk hok (by simp [hlost])

/-- A failed write whose byte reached the line ends the transmission after that byte (42_serial R125). -/
theorem transmit_of_failSent {w : List Byte} {s : State} {k : Nat} (frame : List Byte) (after : After)
    (hk : k < w.length) (hok : ∀ j < k, s.txAnswer (s.txPolls + j) = some .ok)
    (hsent : s.txAnswer (s.txPolls + k) = some .failSent) :
    transmit frame after w s = (s.written w (k + 1)).fail .txf := by
  simpa [hsent] using transmit_of_not_ok frame after hk hok (by simp [hsent])

/-- A read that is not answered is held (42_serial R128; 00_scope R7). -/
theorem receive_of_unanswered {s : State} (hnone : s.rxAnswer s.rxPolls = none) :
    receive s = s.tickRx.hold .receiving := by
  simp [receive, hnone]

/-! ### SEND, RECV and EXEC as transmissions and reads -/

/-- What SEND writes, with the wake byte's value (42_serial R124; 00_scope R8). -/
theorem wakeWrap_eq (p : Params) (frame : List Byte) :
    wakeWrap p frame = List.replicate p.wakePreLen 0x55#8 ++ frame ++ p.wakePost := rfl

/-- SEND of a frame that is not empty transmits it with its wake bytes (42_serial R124). -/
theorem exec_send_eq_transmit {frame : List Byte} (s : State) (hne : frame ≠ []) :
    exec (.send frame) s = .next (transmit frame .respond (wakeWrap s.params frame) s) := by
  rcases sendFrame_cases frame .respond s with ⟨hnil, _⟩ | ⟨_, hsend⟩
  · exact absurd hnil hne
  · exact congrArg _ hsend

/-- RECV is one read (42_serial R128). -/
theorem exec_recv_eq_receive (s : State) : exec .recv s = .next (receive s) := rfl

/-- EXEC clears FIRST and transmits the frame of a CmdW command, then receives (42_serial R131; 70_reset R193). -/
theorem exec_exec_eq_transmit (seq : Byte) (s : State) :
    exec (.exec seq) s = .next (transmit (frameBytes s.first seq [0x57#8, seq]) .receive
      (wakeWrap s.params (frameBytes s.first seq [0x57#8, seq])) (s.setFirst false)) := by
  rcases sendFrame_cases (frameBytes s.first seq [0x57#8, seq]) .receive (s.setFirst false) with ⟨hnil, _⟩ | ⟨_, hsend⟩
  · exact absurd hnil (frameBytes_ne_nil _ _ _)
  · exact congrArg _ hsend

/-- The checksum of a CmdW frame: `0x73` is the sum of its constant bytes `1B`, `01` and `57` (00_scope R11). -/
theorem sum8_cmdW_body (seq : Byte) :
    sum8 (firstBody seq [0x57#8, seq]) = BitVec.ofNat 8 (0x73 + 2 * seq.toNat) ∧
      sum8 (laterBody seq [0x57#8, seq]) = BitVec.ofNat 8 (0x73 + 2 * seq.toNat) :=
  ⟨congrArg (BitVec.ofNat 8) (by simp [firstBody, masterAddr]; omega),
    congrArg (BitVec.ofNat 8) (by simp [laterBody, masterAddr]; omega)⟩

/-- EXEC's frame in both layouts, byte by byte (41_framer R102, R103; 42_serial R131). -/
theorem frameBytes_cmdW (first : Bool) (seq : Byte) :
    frameBytes first seq [0x57#8, seq] =
      (if first = true then [0x00#8, 0xFF#8, 0x1B#8, 0x01#8, seq, 0x00#8, 0x00#8] else [0x1B#8, 0x01#8, seq])
        ++ [0x57#8, seq, BitVec.ofNat 8 (0x73 + 2 * seq.toNat), 0x0D#8, 0x0A#8, 0x55#8, 0x00#8] := by
  obtain ⟨hfirst, hlater⟩ := sum8_cmdW_body seq
  cases first with
  | true => simp only [frameBytes, hfirst]; rfl
  | false => simp only [frameBytes, hlater]; rfl

/-- Settles O35: each request stops at the first transport request that is not answered, by the rule for that answer. -/
theorem unansweredTransportRequestIsHeld : Obligations.UnansweredTransportRequestIsHeld := by
  refine ⟨?send, ?recv, ?exec⟩
  case send =>
    intro frame w k s hne hw hk hok hnone
    obtain rfl := hw.trans (wakeWrap_eq _ _).symm
    rw [exec_send_eq_transmit s hne]
    exact congrArg _ (transmit_of_unanswered frame .respond hk hok hnone)
  case recv =>
    intro s hnone
    rw [exec_recv_eq_receive, receive_of_unanswered hnone]
    rfl
  case exec =>
    rintro seq chk f w s rfl hf hw
    obtain rfl := hf.trans (frameBytes_cmdW _ _).symm
    obtain rfl := hw.trans (wakeWrap_eq _ _).symm
    rw [exec_exec_eq_transmit]
    constructor
    · intro k hk hok hnone
      exact congrArg _ (transmit_of_unanswered _ .receive hk hok hnone)
    · intro hok hnone
      rw [transmit_of_ok (s := s.setFirst false) _ .receive hok, State.written_length]
      exact congrArg _ (receive_of_unanswered (s := { s with first := false, wire := _, txPolls := _ }) hnone)

/-! ### The step of a held request -/

/-- Without reset, a step goes on with the request in progress (20_memory R48; 00_scope R7). -/
theorem step_of_held {s : State} {p : Progress} (hreset : s.resetLine = false) (hp : s.progress = some p) :
    step s = .next (resume p s.release) := by
  simp [step, State.activity, hreset, hp]

/-- Settles O59: the step of a held request is the rest of its transmission, or its read, from the released state. -/
theorem heldRequestGoesOnWhereItStopped : Obligations.HeldRequestGoesOnWhereItStopped := by
  intro s hreset
  refine ⟨?respond, ?receive, ?read, ?stopped⟩
  case respond =>
    intro frame rest hp hok
    rw [step_of_held hreset hp, resume, transmit_of_ok (s := s.release) frame .respond hok, State.written_length]
    rfl
  case receive =>
    intro frame rest hp hok
    rw [step_of_held hreset hp, resume, transmit_of_ok (s := s.release) frame .receive hok, State.written_length]
    rfl
  case read =>
    intro hp
    rw [step_of_held hreset hp]
    rfl
  case stopped =>
    intro frame rest after hp k hk hok
    rw [step_of_held hreset hp, resume]
    refine ⟨fun hlost => ?_, fun hsent => ?_, fun hnone => ?_⟩
    · exact congrArg _ (transmit_of_failLost (s := s.release) frame after hk hok hlost)
    · exact congrArg _ (transmit_of_failSent (s := s.release) frame after hk hok hsent)
    · exact congrArg _ (transmit_of_unanswered (s := s.release) frame after hk hok hnone)

end Sys2Proof.Machine
end

section
/-! # The registers over a step, and the invariant

What a step outside reset can do to CFG, STATUS, FIRST, the responses and the reads is said once, in `StepEffect`; the
statements on the registers (10_state R22 to R27) and the machine's invariant are read off it. -/

namespace Sys2Proof.Machine

/-! ### STATUS bit by bit (10_state R24 to R26) -/

/-- Bit 0 mirrors FIRST (10_state R25). -/
theorem State.status_getLsbD_zero (s : State) : s.status.getLsbD 0 = s.first :=
  BitVec.getLsbD_append.trans (by simp)

/-- Bits 7:1 are the stored ones (10_state R24). -/
theorem State.status_getLsbD_succ (s : State) (k : Nat) : s.status.getLsbD (k + 1) = s.sticky.getLsbD k :=
  BitVec.getLsbD_append.trans (by simp)

theorem StatusBit.pos_bounds (b : StatusBit) : 1 ≤ b.pos ∧ b.pos ≤ 7 := by
  cases b <;> decide

/-- A sticky bit's mask has that one bit (10_state R24). -/
theorem stickyMask_getLsbD (b : StatusBit) (k : Nat) : (stickyMask b).getLsbD k = decide (k + 1 = b.pos) := by
  obtain ⟨hlo, hhi⟩ := b.pos_bounds
  rw [stickyMask, ← BitVec.twoPow_eq, BitVec.getLsbD_twoPow]
  grind

/-- `flag(X)` sets bit X of STATUS and no other (10_state R26). -/
theorem State.flag_status_getLsbD (s : State) (b : StatusBit) (k : Nat) :
    (s.flag b).status.getLsbD k = (decide (k = b.pos) || s.status.getLsbD k) := by
  obtain ⟨hlo, _⟩ := b.pos_bounds
  cases k with
  | zero =>
    have hne : 0 ≠ b.pos := by omega
    rw [State.status_getLsbD_zero, State.status_getLsbD_zero]
    simp [hne]
  | succ k =>
    rw [State.status_getLsbD_succ, State.status_getLsbD_succ]
    simp [stickyMask_getLsbD, Bool.or_comm]

/-! ### Rules on shared operations -/

@[simp] theorem State.written_wire (s : State) (w : List Byte) (k : Nat) :
    (s.written w k).wire = s.wire ++ w.take k := rfl

/-- BUILD's flag is all that an unknown type can change (40_builder R84). -/
theorem State.noteUnknown_eq_update (s : State) (ctype : CType) :
    s.noteUnknown ctype = { s with sticky := (s.noteUnknown ctype).sticky } := by
  rcases s.noteUnknown_cases ctype with e | ⟨e, -, -⟩
  · rw [e]
  · rw [e]; rfl

theorem State.noteUnknown_sticky (s : State) (ctype : CType) :
    (s.noteUnknown ctype).sticky = s.sticky ∨ ∃ b, (s.noteUnknown ctype).sticky = s.sticky ||| stickyMask b := by
  rcases s.noteUnknown_cases ctype with e | ⟨e, -, -⟩
  · exact .inl (by rw [e])
  · exact .inr ⟨.unk, by rw [e, State.flag_sticky]⟩

/-- Judging a reply is over at once and puts nothing on the line (42_serial R128). -/
theorem State.judge_wire_progress (s : State) (reply : List Byte) :
    (s.judge reply).wire = s.wire ∧ (s.judge reply).progress = s.progress := by
  rcases s.judge_cases reply with ⟨_, e⟩ | ⟨_, e⟩ | ⟨_, e⟩ <;> simp [e]

/-- Receiving puts nothing on the line, and is held if at all in its read (42_serial R128). -/
theorem receive_wire_progress (s : State) :
    (receive s).wire = s.wire ∧ ((receive s).progress = s.progress ∨ (receive s).progress = some .receiving) := by
  rcases receive_cases s with ⟨_, e⟩ | ⟨_, e⟩ | ⟨reply, _, e⟩
  · simp [e]
  · simp [e]
  · obtain ⟨hwire, hprogress⟩ := (s.tickRx.logRead (.ok reply)).judge_wire_progress reply
    rw [e]
    exact ⟨hwire, .inl hprogress⟩

theorem afterSend_wire_progress (frame : List Byte) (after : After) (s : State) :
    (afterSend frame after s).wire = s.wire ∧
      ((afterSend frame after s).progress = s.progress ∨ (afterSend frame after s).progress = some .receiving) := by
  cases after with
  | respond => exact ⟨rfl, .inl rfl⟩
  | receive => exact receive_wire_progress s

/-- A transmission of `w` puts a beginning of `w` on the line, all of it where every write is answered ok, and what it holds
is the rest of `w` or the read after it (42_serial R124, R125; 20_memory R44). -/
theorem transmit_wire_progress (frame : List Byte) (after : After) (w : List Byte) (s : State) :
    ∃ k ≤ w.length, (transmit frame after w s).wire = s.wire ++ w.take k ∧
      ((∀ j < w.length, s.txAnswer (s.txPolls + j) = some .ok) → k = w.length) ∧
      ((transmit frame after w s).progress = s.progress ∨ (transmit frame after w s).progress = some .receiving ∨
        (k < w.length ∧ (transmit frame after w s).progress = some (.sending frame (w.drop k) after))) := by
  rcases transmit_cases frame after w s with ⟨_, e⟩ | ⟨k, hk, _, stopped⟩
  · obtain ⟨hwire, hprogress⟩ := afterSend_wire_progress frame after (s.written w w.length)
    rw [e]
    exact ⟨w.length, le_rfl, hwire, fun _ => rfl, hprogress.imp_right .inl⟩
  · have not_all_ok : s.txAnswer (s.txPolls + k) ≠ some .ok →
        ¬ ∀ j < w.length, s.txAnswer (s.txPolls + j) = some .ok := fun hne hall => hne (hall k hk)
    rcases stopped with ⟨answer, e⟩ | ⟨answer, e⟩ | ⟨answer, e⟩ <;> rw [e]
    · exact ⟨k, hk.le, by simp, fun hall => absurd hall (not_all_ok (by simp [answer])), .inr (.inr ⟨hk, rfl⟩)⟩
    · exact ⟨k, hk.le, by simp, fun hall => absurd hall (not_all_ok (by simp [answer])), .inl rfl⟩
    · exact ⟨k + 1, hk, by simp, fun hall => absurd hall (not_all_ok (by simp [answer])), .inl rfl⟩

/-! ### The instruction a step runs -/

/-- A step runs an instruction just when it accepts a legal request (20_memory R47, R48; 70_reset R191). -/
theorem State.nextInstr_eq_some_iff (s : State) (i : Instr) :
    s.nextInstr = some i ↔ s.resetLine = false ∧ s.progress = none ∧
      ∃ r rest, s.host = r :: rest ∧ decode s.params.maxData r = .ok i := by
  cases hreset : s.resetLine with
  | true => simp [State.nextInstr, State.activity, hreset]
  | false =>
    cases hp : s.progress with
    | some p => simp [State.nextInstr, State.activity, hreset, hp]
    | none =>
      cases hh : s.host with
      | nil => simp [State.nextInstr, State.activity, hreset, hp, hh]
      | cons r rest =>
        cases hd : decode s.params.maxData r <;> simp [State.nextInstr, State.activity, hreset, hp, hh, hd]

/-- Where reset is asserted a step is reset (70_reset R191). -/
theorem eq_applyReset_of_step {s t : State} (hreset : s.resetLine = true) (h : step s = .next t) :
    t = s.applyReset := by
  simpa [step, State.activity, hreset, eq_comm] using h

/-! ### What a step does to the registers and to what a run shows -/

/-- What running an instruction, or a step that runs none, can do to the registers, the responses and the reads. -/
structure StepEffect (i : Option Instr) (s t : State) : Prop where
  params : t.params = s.params
  cfg : t.cfg = s.cfg ∨ ∃ v, i = some (.wrcfg v) ∧ t.cfg = v &&& 0x01#8
  first : t.first = s.first ∨ (i = some .session ∧ t.first = true) ∨
    (t.first = false ∧ ((∃ seq command, i = some (.frame seq command)) ∨
      (∃ ctype seq payload, i = some (.buildframe ctype seq payload)) ∨ ∃ seq, i = some (.exec seq)))
  /-- CLRSTAT clears the sticky bits; nothing else clears one (10_state R26). -/
  sticky : (i = some .clrstat ∧ t.sticky = 0#7) ∨
    (i ≠ some .clrstat ∧ (t.sticky = s.sticky ∨ ∃ b, t.sticky = s.sticky ||| stickyMask b))
  responses : t.responses = s.responses ∨
    ∃ r, t.responses = s.responses ++ [r] ∧ (r.tag = .error → r.bytes = sentinel)
  reads : t.reads = s.reads ∨
    ∃ a, t.reads = s.reads ++ [a] ∧ ∀ reply, a = .ok reply → reply.length ≤ s.params.rxMax

/-- A transaction with the transport writes no register but STATUS (42_serial R125, R128, R129). -/
theorem Transaction.stepEffect {s t : State} (h : Transaction s t) {i : Option Instr} (hi : i ≠ some .clrstat) :
    StepEffect i s t where
  params := h.params
  cfg := .inl h.cfg
  first := .inl h.first
  sticky := by
    refine .inr ⟨hi, ?_⟩
    rcases h.outcome with ⟨_, r, _, ⟨_, hs⟩ | ⟨_, _, hs⟩ | ⟨_, b, _, hs⟩⟩ | ⟨_, hs, _⟩
    · exact .inl hs
    · exact .inr ⟨.nak, hs⟩
    · exact .inr ⟨b, hs⟩
    · exact .inl hs
  responses := by
    rcases h.outcome with ⟨_, r, hr, ⟨tag, _⟩ | ⟨tag, _, _⟩ | ⟨rfl, _⟩⟩ | ⟨hr, _, _⟩
    · exact .inr ⟨r, hr, by simp [tag]⟩
    · exact .inr ⟨r, hr, by simp [tag]⟩
    · exact .inr ⟨_, hr, fun _ => rfl⟩
    · exact .inl hr
  reads := h.reads

/-- What an instruction does from a state without a request in progress. -/
theorem exec_stepEffect {i : Instr} {s t : State} (hp : s.progress = none) (h : exec i s = .next t) :
    StepEffect (some i) s t := by
  cases i with
  | send frame =>
    obtain rfl := Host.Outcome.next.inj h
    exact (sendFrame_transaction frame .respond s hp).stepEffect (by simp)
  | recv =>
    obtain rfl := Host.Outcome.next.inj h
    exact (receive_transaction s hp).stepEffect (by simp)
  | exec seq =>
    obtain rfl := Host.Outcome.next.inj h
    have sent := sendFrame_transaction (frameBytes s.first seq [0x57#8, seq]) .receive (s.setFirst false) hp
    exact { sent.stepEffect (by simp) with first := .inr (.inr ⟨sent.first, .inr (.inr ⟨seq, rfl⟩)⟩) }
  | build ctype seq payload =>
    obtain rfl := Host.Outcome.next.inj h
    rw [State.noteUnknown_eq_update]
    constructor <;> simp [s.noteUnknown_sticky ctype]
  | buildframe ctype seq payload =>
    obtain rfl := Host.Outcome.next.inj h
    rw [State.noteUnknown_eq_update]
    constructor <;> simp [s.noteUnknown_sticky ctype]
  | frame | validate | revb | session | wrcfg | rdstat | clrstat =>
    obtain rfl := Host.Outcome.next.inj h
    constructor <;> simp

/-- What a step without reset does, by the instruction it runs. -/
theorem step_stepEffect {s t : State} (hreset : s.resetLine = false) (h : step s = .next t) :
    StepEffect s.nextInstr s t := by
  rcases step_cases s with ⟨hr, _⟩ | ⟨_, p, hp, e⟩ | ⟨_, _, hh, e⟩ | ⟨_, hp, r, rest, i, hh, hd, e⟩ |
    ⟨_, _, r, rest, err, hh, hd, e⟩
  · simp [hreset] at hr
  · obtain rfl := Host.Outcome.next.inj (e.symm.trans h)
    have running := (resume_transaction p s).stepEffect (i := s.nextInstr) (by simp [State.nextInstr_eq_some_iff, hp])
    exact { running with }
  · obtain rfl := Host.Outcome.next.inj (e.symm.trans h)
    constructor <;> simp [State.nextInstr_eq_some_iff, hh]
  · have hi : s.nextInstr = some i := (s.nextInstr_eq_some_iff i).2 ⟨hreset, hp, r, rest, hh, hd⟩
    rw [hi]
    exact { exec_stepEffect (s := s.setHost rest) hp (e.symm.trans h) with }
  · obtain rfl := Host.Outcome.next.inj (e.symm.trans h)
    have hi : s.nextInstr ≠ some .clrstat := by simp [State.nextInstr_eq_some_iff, hh, hd]
    constructor <;> simp [hi]
    exact .inr ⟨.ill, rfl⟩

/-! ### CFG, STATUS and FIRST over a step -/

/-- Settles O16: bit 0 of STATUS is read from FIRST, which RDSTAT and CLRSTAT do not write. -/
theorem statusBitZeroMirrorsFirst : Obligations.StatusBitZeroMirrorsFirst := by
  refine ⟨State.status_getLsbD_zero, fun s => ?rdstat, fun s => ?clrstat⟩
  case rdstat => exact ⟨_, s.status, s.cfgRead, rfl, rfl, s.status_getLsbD_zero⟩
  case clrstat =>
    refine ⟨_, rfl, ?_⟩
    rw [State.status_getLsbD_zero, State.status_getLsbD_zero]
    rfl

/-- Settles O15: outside reset and CLRSTAT a step only adds sticky bits; those two store zero. -/
theorem stickyBitsStayUntilCleared : Obligations.StickyBitsStayUntilCleared := by
  refine ⟨State.flag_status_getLsbD, ?stay, ?clear⟩
  case stay =>
    intro s t hreset hi h k hk hset
    obtain ⟨k, rfl⟩ := Nat.exists_eq_add_of_le' hk
    rw [State.status_getLsbD_succ] at hset ⊢
    rcases (step_stepEffect hreset h).sticky with ⟨hclr, _⟩ | ⟨_, hs | ⟨b, hs⟩⟩
    · exact absurd hclr hi
    · rw [hs, hset]
    · simp [hs, hset]
  case clear =>
    intro s t hcause h k hk
    obtain ⟨k, rfl⟩ := Nat.exists_eq_add_of_le' hk
    have cleared : t.sticky = 0#7 := by
      rcases hcause with hi | hreset
      · obtain ⟨hreset, _⟩ := (s.nextInstr_eq_some_iff _).1 hi
        rcases (step_stepEffect hreset h).sticky with ⟨_, hs⟩ | ⟨hne, _⟩
        · exact hs
        · exact absurd hi hne
      · obtain rfl := eq_applyReset_of_step hreset h
        rfl
    rw [State.status_getLsbD_succ, cleared, BitVec.getLsbD_zero]

/-- Settles O17: the writers of FIRST in `StepEffect`. -/
theorem firstIsWrittenOnlyByFramesAndSession : Obligations.FirstIsWrittenOnlyByFramesAndSession := by
  intro s t hreset h hne
  exact (step_stepEffect hreset h).first.resolve_left hne

/-- Settles O18: the one writer of CFG in `StepEffect`. -/
theorem cfgIsWrittenOnlyByWrcfg : Obligations.CfgIsWrittenOnlyByWrcfg := by
  intro s t hreset h hne
  rcases (step_stepEffect hreset h).cfg with hcfg | ⟨v, hi, _⟩
  · exact hcfg
  · exact absurd hi (hne v)

/-- Settles O19: reset leaves the parameters as every other step does. -/
theorem noStepWritesTheInstance : Obligations.NoStepWritesTheInstance := by
  intro s t h
  cases hreset : s.resetLine with
  | true =>
    obtain rfl := eq_applyReset_of_step hreset h
    rfl
  | false => exact (step_stepEffect hreset h).params

/-! ### The bytes of a frame (10_state R30) -/

/-- The command bytes depend on the command table alone of the parameters (40_builder R83, R84). -/
theorem commandBytes_congr {p q : Params} (htab : p.cmdTab = q.cmdTab) (ctype : CType) (seq : Byte)
    (payload : List Byte) : commandBytes p ctype seq payload = commandBytes q ctype seq payload := by
  cases ctype with
  | unknown code => rfl
  | named t => cases t <;> simp [commandBytes, descriptor, cmdId, cmdTmpl, cmdPos, htab]

/-- Settles O55: the response of FRAME and BUILDFRAME is `frameBytes` of FIRST, and EXEC's frame is that of its CmdW command,
of whose transmission the line gets a beginning. -/
theorem frameBytesDependOnFirstAlone : Obligations.FrameBytesDependOnFirstAlone := by
  refine ⟨?framers, ?exec⟩
  case framers =>
    intro i s u hop hfirst htab
    cases i with
    | frame seq command =>
      refine ⟨_, _, { tag := .ok, bytes := frameBytes s.first seq command }, rfl, rfl, rfl, ?_⟩
      rw [hfirst]
      rfl
    | buildframe ctype seq payload =>
      refine ⟨_, _, { tag := .ok, bytes := frameBytes s.first seq (commandBytes s.params ctype seq payload) },
        rfl, rfl, ?_, ?_⟩
      · rw [s.noteUnknown_eq_update]; rfl
      · rw [hfirst, commandBytes_congr htab, u.noteUnknown_eq_update]; rfl
    | _ => simp [Instr.op] at hop
  case exec =>
    intro first seq
    refine ⟨frameBytes first seq [0x57#8, seq], ?_⟩
    rintro s w rfl hw
    obtain rfl := hw.trans (wakeWrap_eq _ _).symm
    obtain ⟨k, hk, hwire, hall, hprogress⟩ := transmit_wire_progress (frameBytes s.first seq [0x57#8, seq]) .receive
      (wakeWrap s.params (frameBytes s.first seq [0x57#8, seq])) (s.setFirst false)
    exact ⟨_, k, hk, exec_exec_eq_transmit seq s, hwire, hall, hprogress.imp_right (Or.imp_right And.right)⟩

/-! ### The invariant -/

/-- The invariant's clause on a held request: it is one its operation can have reached. -/
def State.ProgressSound (s : State) : Prop := ∀ p, s.progress = some p → p.sound s

theorem State.progressSound_of_none {s : State} (hp : s.progress = none) : s.ProgressSound := by
  simp [State.ProgressSound, hp]

theorem State.progressSound_of_held {s : State} {p : Progress} (hp : s.progress = some p) (hsound : p.sound s) :
    s.ProgressSound := by
  rintro q hq
  obtain rfl := Option.some.inj (hp.symm.trans hq)
  exact hsound

/-- What receiving holds is its read, which is always sound (42_serial R128). -/
theorem receive_progressSound {s : State} (hp : s.progress = none) : (receive s).ProgressSound := by
  obtain ⟨_, h | h⟩ := receive_wire_progress s
  · exact State.progressSound_of_none (h.trans hp)
  · exact State.progressSound_of_held h trivial

/-- A transmission of an end of what SEND writes holds, if anything, such an end or the read after it. EXEC's is made with
FIRST clear (42_serial R124, R131; 70_reset R193). -/
theorem transmit_progressSound {frame w : List Byte} {after : After} {s : State} (hp : s.progress = none)
    (hne : frame ≠ []) (hw : w <:+ wakeWrap s.params frame)
    (hexec : after = .receive → s.first = false ∧ ∃ first seq, frame = frameBytes first seq [0x57#8, seq]) :
    (transmit frame after w s).ProgressSound := by
  have h := transmit_transaction frame after w s hp
  obtain ⟨k, _, _, _, hnone | hread | ⟨hk, hsending⟩⟩ := transmit_wire_progress frame after w s
  · exact State.progressSound_of_none (hnone.trans hp)
  · exact State.progressSound_of_held hread trivial
  · refine State.progressSound_of_held hsending ⟨hne, ?_, ?_, ?_⟩
    · simpa [List.drop_eq_nil_iff] using hk
    · rw [h.params]
      exact (List.drop_suffix k w).trans hw
    · rw [h.first]
      exact hexec

/-- Going on with a sound request leaves a sound one, if any (00_scope R7). -/
theorem resume_progressSound {p : Progress} {s : State} (hsound : p.sound s) : (resume p s.release).ProgressSound := by
  cases p with
  | receiving => exact receive_progressSound rfl
  | sending frame rest after =>
    obtain ⟨hne, _, hrest, hexec⟩ := hsound
    exact transmit_progressSound rfl hne hrest hexec

/-- What an instruction holds is sound (42_serial R124, R128, R131). -/
theorem exec_progressSound {i : Instr} {s t : State} (hp : s.progress = none) (h : exec i s = .next t) :
    t.ProgressSound := by
  cases i with
  | send frame =>
    obtain rfl := Host.Outcome.next.inj h
    rcases sendFrame_cases frame .respond s with ⟨_, e⟩ | ⟨hne, e⟩ <;> rw [e]
    · exact State.progressSound_of_none hp
    · exact transmit_progressSound hp hne List.suffix_rfl (by simp)
  | recv =>
    obtain rfl := Host.Outcome.next.inj h
    exact receive_progressSound hp
  | exec seq =>
    obtain rfl := Host.Outcome.next.inj ((exec_exec_eq_transmit seq s).symm.trans h)
    exact transmit_progressSound (s := s.setFirst false) hp (frameBytes_ne_nil _ _ _) List.suffix_rfl
      (fun _ => ⟨rfl, _, _, rfl⟩)
  | build | buildframe =>
    obtain rfl := Host.Outcome.next.inj h
    exact State.progressSound_of_none (by rw [State.noteUnknown_eq_update]; exact hp)
  | frame | validate | revb | session | wrcfg | rdstat | clrstat =>
    obtain rfl := Host.Outcome.next.inj h
    exact State.progressSound_of_none hp

theorem step_progressSound {s t : State} (hs : s.ProgressSound) (h : step s = .next t) : t.ProgressSound := by
  rcases step_cases s with ⟨_, e⟩ | ⟨_, p, hp, e⟩ | ⟨_, _, _, e⟩ | ⟨_, hp, r, rest, i, _, _, e⟩ |
    ⟨_, hp, r, rest, err, _, _, e⟩
  · obtain rfl := Host.Outcome.next.inj (e.symm.trans h)
    exact State.progressSound_of_none rfl
  · obtain rfl := Host.Outcome.next.inj (e.symm.trans h)
    exact resume_progressSound (hs p hp)
  · obtain rfl := Host.Outcome.next.inj (e.symm.trans h)
    exact hs
  · exact exec_progressSound (s := s.setHost rest) hp (e.symm.trans h)
  · obtain rfl := Host.Outcome.next.inj (e.symm.trans h)
    exact State.progressSound_of_none hp

/-- A masked immediate has no reserved bit of CFG (43_control R151). -/
theorem cfg_reserved_of_wrcfg (v : Byte) : (v &&& 0x01#8).extractLsb' 1 7 = 0#7 := by
  rw [BitVec.extractLsb'_and]
  exact BitVec.and_zero

/-- Reset keeps the invariant: it leaves the parameters and what a run shows, and abandons a held request
(70_reset R190, R191). -/
theorem State.Inv.applyReset {s : State} (hs : s.Inv) : s.applyReset.Inv where
  params_wf := hs.params_wf
  cfg_reserved := (by decide : (0x00#8 : Byte).extractLsb' 1 7 = 0#7)
  progress_sound := State.progressSound_of_none rfl
  error_sentinel := hs.error_sentinel
  reads_bounded := hs.reads_bounded

/-- A step's effect keeps the invariant, given a sound held request. -/
theorem State.Inv.of_stepEffect {i : Option Instr} {s t : State} (hs : s.Inv) (h : StepEffect i s t)
    (hsound : t.ProgressSound) : t.Inv where
  params_wf := by rw [h.params]; exact hs.params_wf
  cfg_reserved := by
    rcases h.cfg with hcfg | ⟨v, _, hcfg⟩ <;> rw [hcfg]
    · exact hs.cfg_reserved
    · exact cfg_reserved_of_wrcfg v
  progress_sound := hsound
  error_sentinel := by
    rcases h.responses with hr | ⟨r, hr, hsentinel⟩ <;> rw [hr]
    · exact hs.error_sentinel
    · exact List.forall_mem_append.2 ⟨hs.error_sentinel, List.forall_mem_singleton.2 hsentinel⟩
  reads_bounded := by
    intro reply hmem
    rw [h.params]
    rcases h.reads with hr | ⟨a, hr, hlen⟩ <;> rw [hr] at hmem
    · exact hs.reads_bounded reply hmem
    · rcases List.mem_append.1 hmem with hold | hnew
      · exact hs.reads_bounded reply hold
      · exact hlen reply (List.mem_singleton.1 hnew).symm

/-- Settles O58: reset, or a step whose effect keeps each clause while what it holds is sound. -/
theorem everyStepKeepsTheInvariant : Obligations.EveryStepKeepsTheInvariant := by
  intro s t hs h
  cases hreset : s.resetLine with
  | true =>
    obtain rfl := eq_applyReset_of_step hreset h
    exact hs.applyReset
  | false => exact hs.of_stepEffect (step_stepEffect hreset h) (step_progressSound hs.progress_sound h)

end Sys2Proof.Machine
end

section
/-! # The port and what a step appends

A legal request at the port is run by the step that accepts it, a held one keeps the port (20_memory R47, R48), only SEND,
RECV and EXEC use the transport (20_memory R55), and what a run shows only grows. -/

namespace Sys2Proof.Machine

/-! ### The step that accepts a request, and the step of a held one -/

/-- A legal request at the port of a block that is not busy is taken and run (20_memory R47; 30_encoding R68). -/
theorem step_of_legal {s : State} {r : Request} {rest : List Request} {i : Instr} (hreset : s.resetLine = false)
    (hp : s.progress = none) (hh : s.host = r :: rest) (hd : decode s.params.maxData r = .ok i) :
    step s = exec i (s.setHost rest) := by
  simp [step, State.activity, hreset, hp, hh, hd]

/-- Settles O9: the step of a legal request, with `setHost` written out. -/
theorem stepRunsTheDecodedInstruction : Obligations.StepRunsTheDecodedInstruction := by
  intro s r rest i hreset hp hh hd
  exact step_of_legal hreset hp hh hd

/-- Settles O13: going on with a held request is a transaction, which is answered once or is held again. -/
theorem heldRequestKeepsThePort : Obligations.HeldRequestKeepsThePort := by
  intro s p hreset hp
  have went := resume_transaction p s
  refine ⟨_, step_of_held hreset hp, went.host, went.first, went.cfg, went.params, ?held, ?ended⟩
  case held =>
    intro hbusy
    rcases went.outcome with ⟨hnone, _⟩ | ⟨hresponses, hsticky, _⟩
    · exact absurd hnone hbusy
    · exact ⟨hresponses, hsticky⟩
  case ended =>
    intro hnone
    rcases went.outcome with ⟨_, r, hresponses, _⟩ | ⟨_, _, q, hheld⟩
    · exact ⟨r, hresponses⟩
    · simp [hnone] at hheld

/-! ### The operations that do not use the transport -/

/-- Settles O54: each of the nine other meanings is a response after writes of FIRST, CFG or STATUS alone. -/
theorem onlySendRecvExecTouchTheTransport : Obligations.OnlySendRecvExecTouchTheTransport := by
  intro i s hop
  cases i with
  | send | recv | exec => simp [Instr.op] at hop
  | build ctype seq payload =>
    refine ⟨_, { tag := .ok, bytes := commandBytes s.params ctype seq payload }, rfl, ?_⟩
    rw [s.noteUnknown_eq_update]
    exact ⟨rfl, rfl, rfl, rfl, rfl, rfl, rfl⟩
  | buildframe ctype seq payload =>
    refine ⟨_, { tag := .ok, bytes := frameBytes s.first seq (commandBytes s.params ctype seq payload) }, rfl, ?_⟩
    rw [s.noteUnknown_eq_update]
    exact ⟨rfl, rfl, rfl, rfl, rfl, rfl, rfl⟩
  | frame | validate | revb | session | wrcfg | rdstat | clrstat =>
    exact ⟨_, _, rfl, rfl, rfl, rfl, rfl, rfl, rfl, rfl⟩

/-! ### What a step appends -/

/-- The three operations that use the transport only append to WIRE (20_memory R44); the others leave it. -/
theorem exec_extends_wire {i : Instr} {s t : State} (hp : s.progress = none) (h : exec i s = .next t) :
    s.wire <+: t.wire := by
  by_cases hop : i.op ∈ [Op.send, Op.recv, Op.exec]
  case neg =>
    obtain ⟨u, _, hu, _, hwire, _⟩ := onlySendRecvExecTouchTheTransport i s hop
    obtain rfl := Host.Outcome.next.inj (hu.symm.trans h)
    rw [hwire]
  case pos =>
    cases i with
    | send frame =>
      obtain rfl := Host.Outcome.next.inj h
      exact (sendFrame_transaction frame .respond s hp).wire
    | recv =>
      obtain rfl := Host.Outcome.next.inj h
      exact (receive_transaction s hp).wire
    | exec seq =>
      obtain rfl := Host.Outcome.next.inj h
      exact (sendFrame_transaction _ .receive (s.setFirst false) hp).wire
    | _ => simp [Instr.op] at hop

/-- No step takes a byte off the line, reset included (20_memory R44; 70_reset R191). -/
theorem step_extends_wire {s t : State} (h : step s = .next t) : s.wire <+: t.wire := by
  rcases step_cases s with ⟨_, e⟩ | ⟨_, p, _, e⟩ | ⟨_, _, _, e⟩ | ⟨_, hp, r, rest, i, _, _, e⟩ |
    ⟨_, _, r, rest, err, _, _, e⟩
  · obtain rfl := Host.Outcome.next.inj (e.symm.trans h)
    simp
  · obtain rfl := Host.Outcome.next.inj (e.symm.trans h)
    exact (resume_transaction p s).wire
  · obtain rfl := Host.Outcome.next.inj (e.symm.trans h)
    simp
  · exact exec_extends_wire (s := s.setHost rest) hp (e.symm.trans h)
  · obtain rfl := Host.Outcome.next.inj (e.symm.trans h)
    simp

/-- A step's effect appends to the reads, and at most one response (30_encoding R72). -/
theorem StepEffect.appends {i : Option Instr} {s t : State} (h : StepEffect i s t) :
    s.reads <+: t.reads ∧ s.responses <+: t.responses ∧ t.responses.length ≤ s.responses.length + 1 := by
  refine ⟨?reads, ?responses⟩
  case reads => rcases h.reads with e | ⟨a, e, _⟩ <;> simp [e]
  case responses => rcases h.responses with e | ⟨r, e, _⟩ <;> simp [e]

/-- Settles O53: WIRE by `step_extends_wire`; reset leaves the reads and the responses, and every other step's effect
appends to them. -/
theorem outputsOnlyGrow : Obligations.OutputsOnlyGrow := by
  intro s t h
  refine ⟨step_extends_wire h, ?_⟩
  cases hreset : s.resetLine with
  | true =>
    obtain rfl := eq_applyReset_of_step hreset h
    simp
  | false => exact (step_stepEffect hreset h).appends

end Sys2Proof.Machine
end

section
/-! # Decoding and encoding are inverse

An instruction is its operation and its fields, and a legal word is its fields (30_encoding R60, R65 to R67), so decoding
and encoding undo each other; the illegal requests are what is left (30_encoding R69). -/

namespace Sys2Proof

/-! ### Instructions and their fields -/

/-- An instruction is made of its own operation, fields and data operand, where its CTYPE is well formed
(30_encoding R66, R71). -/
theorem Instr.ofFields_fields {maxData : Nat} {i : Instr} (hwf : i.wf maxData = true) :
    Instr.ofFields i.op i.seqField i.ctypeField i.data = i := by
  cases i with
  | build ctype seq payload =>
    obtain ⟨hctype, _⟩ := (Bool.and_eq_true _ _).mp hwf
    exact congrArg (Instr.build · seq payload) (CType.ofCode_code ctype hctype)
  | buildframe ctype seq payload =>
    obtain ⟨hctype, _⟩ := (Bool.and_eq_true _ _).mp hwf
    exact congrArg (Instr.buildframe · seq payload) (CType.ofCode_code ctype hctype)
  | frame | send | recv | validate | exec | revb | session | wrcfg | rdstat | clrstat => rfl

/-- The data operand of a well-formed instruction fits (30_encoding R69). -/
theorem Instr.data_length_le {maxData : Nat} {i : Instr} (hwf : i.wf maxData = true) : i.data.length ≤ maxData := by
  cases i with
  | build | buildframe | frame | send | validate | revb => simp_all [Instr.wf, Instr.data]
  | recv | exec | session | wrcfg | rdstat | clrstat => exact Nat.zero_le _

/-- What an operation does not use is zero or empty in its instructions (30_encoding R67). -/
theorem Instr.unused_fields (i : Instr) :
    (i.op.usesCtype = true ∨ i.ctypeField = 0#5) ∧ (i.op.usesSeq = true ∨ i.seqField = 0#8)
      ∧ (i.op.takesData = true ∨ i.data = []) := by
  cases i <;> simp [Instr.op, Instr.ctypeField, Instr.seqField, Instr.data, Op.usesCtype, Op.usesSeq, Op.takesData]

/-- An instruction made of fields is well formed where the data operand fits: no CTYPE code is wrong
(30_encoding R66, R69). -/
theorem Instr.wf_ofFields {maxData : Nat} {data : List Byte} (op : Op) (seq : Byte) (ctype : BitVec 5)
    (hlen : data.length ≤ maxData) : (Instr.ofFields op seq ctype data).wf maxData = true := by
  cases op <;> simp [Instr.ofFields, Instr.wf, hlen]

/-- The fields of an instruction made of fields, zero where its operation does not use them, are those fields
(30_encoding R67). -/
theorem Instr.fields_ofFields_of_unused {op : Op} {seq : Byte} {ctype : BitVec 5} {data : List Byte}
    (hctype : op.usesCtype = true ∨ ctype = 0#5) (hseq : op.usesSeq = true ∨ seq = 0#8)
    (hdata : op.takesData = true ∨ data = []) :
    (Instr.ofFields op seq ctype data).ctypeField = ctype ∧ (Instr.ofFields op seq ctype data).seqField = seq
      ∧ (Instr.ofFields op seq ctype data).data = data := by
  obtain ⟨ctypeField, seqField, dataField⟩ := Instr.fields_ofFields op seq ctype data
  rw [ctypeField, seqField, dataField]
  exact ⟨ite_eq_left_iff.mpr fun unused => (hctype.resolve_left unused).symm,
    ite_eq_left_iff.mpr fun unused => (hseq.resolve_left unused).symm,
    ite_eq_left_iff.mpr fun unused => (hdata.resolve_left unused).symm⟩

/-! ### Both directions (30_encoding R60, R68) -/

/-- A word made of an operation's code and fields, zero where it does not use them, decodes to the instruction of those
fields (30_encoding R68). -/
theorem decode_ofFields {maxData : Nat} {op : Op} {seq : Byte} {ctype : BitVec 5} {data : List Byte}
    (hlen : data.length ≤ maxData) (hctype : op.usesCtype = true ∨ ctype = 0#5) (hseq : op.usesSeq = true ∨ seq = 0#8)
    (hdata : op.takesData = true ∨ data = []) :
    decode maxData { word := Word.ofFields op.code seq ctype, data := data }
      = .ok (Instr.ofFields op seq ctype data) := by
  rw [decode_eq_ok_iff]
  exact ⟨op, by simpa using ⟨hlen, hctype, hseq, hdata⟩⟩

/-- An instruction made of fields, zero where its operation does not use them, encodes to the word of those fields
(30_encoding R60, R67). -/
theorem encode_ofFields {op : Op} {seq : Byte} {ctype : BitVec 5} {data : List Byte}
    (hctype : op.usesCtype = true ∨ ctype = 0#5) (hseq : op.usesSeq = true ∨ seq = 0#8)
    (hdata : op.takesData = true ∨ data = []) :
    encode (Instr.ofFields op seq ctype data) = { word := Word.ofFields op.code seq ctype, data := data } := by
  obtain ⟨ctypeField, seqField, dataField⟩ := Instr.fields_ofFields_of_unused hctype hseq hdata
  rw [encode, Instr.op_ofFields, ctypeField, seqField, dataField]

/-- Settles O1: the encoding has the instruction's fields, of which the decoder makes the instruction again. -/
theorem decodeOfEncodeIsTheInstruction : Obligations.DecodeOfEncodeIsTheInstruction := by
  intro maxData i hwf
  obtain ⟨hctype, hseq, hdata⟩ := i.unused_fields
  have hdecode := decode_ofFields (Instr.data_length_le hwf) hctype hseq hdata
  rwa [Instr.ofFields_fields hwf] at hdecode

/-- Settles O2: a legal word is the word of its fields, and the ones its operation does not use are zero. -/
theorem legalRequestIsItsEncoding : Obligations.LegalRequestIsItsEncoding := by
  intro maxData r i hdecode
  obtain ⟨op, hop, hlen, hrsv1, hrsv0, hctype, hseq, hdata, rfl⟩ := (decode_eq_ok_iff _ _ _).mp hdecode
  have hword : Word.ofFields op.code (Word.seq r.word) (Word.ctype r.word) = r.word := by
    rw [Op.code_of_ofCode _ _ hop, Word.ofFields_fields r.word hrsv1 hrsv0]
  exact ⟨by rw [encode_ofFields hctype hseq hdata, hword], Instr.wf_ofFields _ _ _ hlen⟩

/-! ### The illegal requests (30_encoding R69) -/

/-- A request is refused just when it decodes to no instruction. -/
theorem decode_error_iff (maxData : Nat) (r : Request) :
    (∃ e, decode maxData r = .error e) ↔ ¬ ∃ i, decode maxData r = .ok i := by
  cases decode maxData r <;> simp

/-- The reserved codes (30_encoding R65). -/
theorem Op.ofCode_eq_none_iff : ∀ c : BitVec 4, Op.ofCode c = none ↔ c ∈ [0x0#4, 0xD#4, 0xE#4, 0xF#4] := by
  decide

/-- The codes of the operations that do not use a field or take no data operand (30_encoding R65, columns 'fields used' and
'data operand'). -/
theorem Op.unused_iff_of_ofCode {c : BitVec 4} {op : Op} (hop : Op.ofCode c = some op) :
    (¬ op.usesCtype = true ↔ c ∉ [0x1#4, 0x3#4])
      ∧ (¬ op.usesSeq = true ↔ c ∉ [0x1#4, 0x2#4, 0x3#4, 0x7#4, 0xA#4])
      ∧ (¬ op.takesData = true ↔ c ∈ [0x5#4, 0x7#4, 0x9#4, 0xA#4, 0xB#4, 0xC#4]) := by
  obtain rfl := Op.code_of_ofCode c op hop
  cases op <;> decide

/-- The checks that a request whose operation is not reserved fails (30_encoding R68). -/
theorem decode_error_iff_of_ofCode {r : Request} {op : Op} (maxData : Nat) (hop : Op.ofCode (Word.op r.word) = some op) :
    (∃ e, decode maxData r = .error e) ↔ ¬ r.data.length ≤ maxData ∨ Word.rsv1 r.word ≠ 0#11 ∨ Word.rsv0 r.word ≠ 0#4
      ∨ (¬ op.usesCtype = true ∧ Word.ctype r.word ≠ 0#5) ∨ (¬ op.usesSeq = true ∧ Word.seq r.word ≠ 0#8)
      ∨ (¬ op.takesData = true ∧ r.data ≠ []) := by
  have hlegal : (∃ i, decode maxData r = .ok i) ↔ r.data.length ≤ maxData ∧ Word.rsv1 r.word = 0#11
      ∧ Word.rsv0 r.word = 0#4 ∧ (op.usesCtype = true ∨ Word.ctype r.word = 0#5)
      ∧ (op.usesSeq = true ∨ Word.seq r.word = 0#8) ∧ (op.takesData = true ∨ r.data = []) := by
    simp [decode_eq_ok_iff, hop]
  rw [decode_error_iff, hlegal]
  simp only [not_and_or, not_or, ne_eq]

/-- Settles O3: a reserved operation is always refused, and any other request by the checks on its fields, with the
operation's columns read as codes. -/
theorem illegalRequestsAreExactlyThese : Obligations.IllegalRequestsAreExactlyThese := by
  intro maxData w d
  rw [← Op.ofCode_eq_none_iff]
  cases hop : Op.ofCode (w.extractLsb' 0 4) with
  | none =>
    have hrefused : ∃ e, decode maxData { word := w, data := d } = .error e := by
      simp [decode_error_iff, decode_eq_ok_iff, Word.op, hop]
    exact iff_of_true hrefused (.inl rfl)
  | some op =>
    obtain ⟨hctype, hseq, hdata⟩ := Op.unused_iff_of_ofCode hop
    rw [decode_error_iff_of_ofCode maxData (r := { word := w, data := d }) hop, hctype, hseq, hdata, Nat.not_le, or_comm]
    simp only [or_assoc, reduceCtorEq, false_or]
    rfl

/-! ### Words written out -/

/-- A request that encodes a well-formed instruction decodes to it. -/
theorem decode_of_encode_eq {maxData : Nat} {r : Request} {i : Instr} (hwf : i.wf maxData = true) (henc : encode i = r) :
    decode maxData r = .ok i :=
  henc ▸ decodeOfEncodeIsTheInstruction maxData i hwf

/-- Settles O4: each word is the encoding of its instruction. -/
theorem sampleWordsDecode : Obligations.SampleWordsDecode :=
  ⟨decode_of_encode_eq (by decide) (by decide), decode_of_encode_eq (by decide) (by decide),
    decode_of_encode_eq (by decide) (by decide), decode_of_encode_eq (by decide) (by decide),
    decode_of_encode_eq (by decide) (by decide), decode_of_encode_eq (by decide) (by decide)⟩

/-- The codes without a name (30_encoding R66). -/
theorem CType.ofCode_of_unnamed : ∀ c : BitVec 5, c ∉ [0#5, 1#5, 3#5, 5#5, 14#5, 17#5, 18#5, 20#5, 21#5] →
    CType.ofCode c = .unknown c := by
  decide

/-- Settles O5: BUILD and BUILDFRAME use every field, and the type is the one `CType.ofCode` reads from the code. -/
theorem ctypeCodesSelectTheirTypes : Obligations.CtypeCodesSelectTheirTypes := by
  intro maxData c seq d hlen
  refine ⟨CType.ofCode c, decode_ofFields (op := .build) hlen (.inl rfl) (.inl rfl) (.inl rfl),
    decode_ofFields (op := .buildframe) hlen (.inl rfl) (.inl rfl) (.inl rfl), ?_⟩
  refine ⟨?_, ?_, ?_, ?_, ?_, ?_, ?_, ?_, ?_, CType.ofCode_of_unnamed c⟩ <;> rintro rfl <;> rfl

end Sys2Proof
end

section
/-! # Assembler lines and pseudo-instructions

A line assembles just when its operands are, in their order, those its operation uses, and its word is then made of the
values they stand for, so the decoder reads them back (30_encoding R74); the pseudo-instructions are encodings
(30_encoding R75). -/

namespace Sys2Proof.Machine

/-! ### The word of a line (30_encoding R60) -/

/-- Settles O6: the fields do not overlap, so at each bit at most one of the three parts is not zero. -/
theorem assembledWordHasItsFields : Obligations.AssembledWordHasItsFields := by
  intro op seq ctype
  apply BitVec.eq_of_getLsbD_eq
  intro k hk
  have hop : 4 ≤ k → op.getLsbD k = false := op.getLsbD_of_ge k
  have hseq : 8 ≤ k - 8 → seq.getLsbD (k - 8) = false := seq.getLsbD_of_ge (k - 8)
  have hctype : 5 ≤ k - 16 → ctype.getLsbD (k - 16) = false := ctype.getLsbD_of_ge (k - 16)
  simp only [asmWord, BitVec.getLsbD_or, BitVec.getLsbD_shiftLeft, BitVec.getLsbD_setWidth, BitVec.getLsbD_append]
  grind

theorem asmWord_eq_ofFields (op : BitVec 4) (seq : Byte) (ctype : BitVec 5) :
    asmWord op seq ctype = Word.ofFields op seq ctype :=
  assembledWordHasItsFields op seq ctype

/-! ### The operands of a line (30_encoding R74) -/

/-- `os` are the operands that give CTYPE the value `c`: none where the operation does not use it. -/
def CtypeOperands (op : Op) (os : List AsmOperand) (c : BitVec 5) : Prop :=
  if op.usesCtype = true then (∃ t, os = [.name t] ∧ c = t.code) ∨ ∃ n ≤ 31, os = [.num n] ∧ c = BitVec.ofNat 5 n
  else os = [] ∧ c = 0#5

/-- `os` are the operands that give SEQ or IMM8 the value `q`: none where the operation does not use it. -/
def SeqOperands (op : Op) (os : List AsmOperand) (q : Byte) : Prop :=
  if op.usesSeq = true then ∃ n ≤ 255, os = [.num n] ∧ q = BitVec.ofNat 8 n else os = [] ∧ q = 0#8

/-- `os` are the operands that give the data operand `d`: it may be omitted, and is where the operation takes none. -/
def DataOperands (op : Op) (os : List AsmOperand) (d : List Byte) : Prop :=
  (os = [] ∧ d = []) ∨
    (op.takesData = true ∧ ∃ bytes, os = [.data bytes] ∧ (∀ n ∈ bytes, n ≤ 255) ∧ d = bytes.map (BitVec.ofNat 8))

theorem ctypeOperands_iff (op : Op) (os after : List AsmOperand) (c : BitVec 5) :
    (if op.usesCtype = true then asmCtype os = some (c, after) else c = 0#5 ∧ after = os) ↔
      ∃ ctypes, CtypeOperands op ctypes c ∧ os = ctypes ++ after := by
  unfold CtypeOperands
  split_ifs
  · rw [asmCtype_eq_some_iff]
    constructor
    · rintro (⟨t, rfl, hc⟩ | ⟨n, hn, rfl, hc⟩)
      · exact ⟨[.name t], .inl ⟨t, rfl, hc⟩, rfl⟩
      · exact ⟨[.num n], .inr ⟨n, hn, rfl, hc⟩, rfl⟩
    · rintro ⟨_, ⟨t, rfl, hc⟩ | ⟨n, hn, rfl, hc⟩, rfl⟩
      · exact .inl ⟨t, rfl, hc⟩
      · exact .inr ⟨n, hn, rfl, hc⟩
  · constructor
    · rintro ⟨rfl, rfl⟩
      exact ⟨[], ⟨rfl, rfl⟩, rfl⟩
    · rintro ⟨_, ⟨rfl, rfl⟩, rfl⟩
      exact ⟨rfl, rfl⟩

theorem seqOperands_iff (op : Op) (os after : List AsmOperand) (q : Byte) :
    (if op.usesSeq = true then asmByte os = some (q, after) else q = 0#8 ∧ after = os) ↔
      ∃ seqs, SeqOperands op seqs q ∧ os = seqs ++ after := by
  unfold SeqOperands
  split_ifs
  · rw [asmByte_eq_some_iff]
    constructor
    · rintro ⟨n, hn, rfl, hq⟩
      exact ⟨[.num n], ⟨n, hn, rfl, hq⟩, rfl⟩
    · rintro ⟨_, ⟨n, hn, rfl, hq⟩, rfl⟩
      exact ⟨n, hn, rfl, hq⟩
  · constructor
    · rintro ⟨rfl, rfl⟩
      exact ⟨[], ⟨rfl, rfl⟩, rfl⟩
    · rintro ⟨_, ⟨rfl, rfl⟩, rfl⟩
      exact ⟨rfl, rfl⟩

theorem dataOperands_iff (op : Op) (os : List AsmOperand) (d : List Byte) :
    (if op.takesData = true then asmData os = some d else os = [] ∧ d = []) ↔ DataOperands op os d := by
  unfold DataOperands
  split_ifs with htakes
  · simp [asmData_eq_some_iff, htakes]
  · simp [htakes]

/-- A line assembles just when its operands are those its operation uses, and its word is made of their values
(30_encoding R60, R74). -/
theorem assemble_iff_operands (op : Op) (operands : List AsmOperand) (r : Request) :
    assemble { op := op, operands := operands } = some r ↔ ∃ ctypes seqs datas c q d,
      operands = ctypes ++ seqs ++ datas ∧ CtypeOperands op ctypes c ∧ SeqOperands op seqs q ∧ DataOperands op datas d
        ∧ r = { word := Word.ofFields op.code q c, data := d } := by
  simp only [assemble_eq_some_iff, ctypeOperands_iff, seqOperands_iff, dataOperands_iff, asmWord_eq_ofFields]
  constructor
  · rintro ⟨c, _, q, datas, d, ⟨ctypes, hctypes, rfl⟩, ⟨seqs, hseqs, rfl⟩, hdatas, rfl⟩
    exact ⟨ctypes, seqs, datas, c, q, d, (List.append_assoc _ _ _).symm, hctypes, hseqs, hdatas, rfl⟩
  · rintro ⟨ctypes, seqs, datas, c, q, d, rfl, hctypes, hseqs, hdatas, rfl⟩
    exact ⟨c, seqs ++ datas, q, datas, d, ⟨ctypes, hctypes, List.append_assoc _ _ _⟩, ⟨seqs, hseqs, rfl⟩, hdatas, rfl⟩

/-! ### The values that operands stand for -/

/-- A number 0 to 31 is its CTYPE code, and an operation that does not use CTYPE has it zero (30_encoding R67, R74). -/
theorem CtypeOperands.value {op : Op} {os : List AsmOperand} {c : BitVec 5} (h : CtypeOperands op os c) :
    (op.usesCtype = true ∨ c = 0#5)
      ∧ if op.usesCtype = true then (∃ t, os = [.name t] ∧ c = t.code) ∨ ∃ n, os = [.num n] ∧ c.toNat = n
        else os = [] := by
  unfold CtypeOperands at h
  split_ifs at h ⊢ with huses
  · refine ⟨.inl huses, h.imp_right ?_⟩
    rintro ⟨n, hn, hos, rfl⟩
    exact ⟨n, hos, (BitVec.toNat_ofNat _ _).trans (Nat.mod_eq_of_lt (by omega))⟩
  · obtain ⟨hos, hc⟩ := h
    exact ⟨.inr hc, hos⟩

/-- A number 0 to 255 is its SEQ or IMM8, and an operation that does not use the field has it zero
(30_encoding R67, R74). -/
theorem SeqOperands.value {op : Op} {os : List AsmOperand} {q : Byte} (h : SeqOperands op os q) :
    (op.usesSeq = true ∨ q = 0#8)
      ∧ if op.usesSeq = true then ∃ n, os = [.num n] ∧ q.toNat = n else os = [] := by
  unfold SeqOperands at h
  split_ifs at h ⊢ with huses
  · obtain ⟨n, hn, hos, rfl⟩ := h
    exact ⟨.inl huses, n, hos, (BitVec.toNat_ofNat _ _).trans (Nat.mod_eq_of_lt (by omega))⟩
  · obtain ⟨hos, hq⟩ := h
    exact ⟨.inr hq, hos⟩

/-- Numbers 0 to 255 are their bytes (30_encoding R74). -/
theorem map_toNat_map_ofNat {bytes : List Nat} (hbytes : ∀ n ∈ bytes, n ≤ 255) :
    (bytes.map (BitVec.ofNat 8)).map BitVec.toNat = bytes := by
  rw [List.map_map]
  refine (List.map_congr_left fun n hn => ?_).trans (List.map_id bytes)
  have hle := hbytes n hn
  exact (BitVec.toNat_ofNat _ _).trans (Nat.mod_eq_of_lt (by omega))

theorem DataOperands.value {op : Op} {os : List AsmOperand} {d : List Byte} (h : DataOperands op os d) :
    (op.takesData = true ∨ d = [])
      ∧ ((os = [] ∧ d = []) ∨ (op.takesData = true ∧ ∃ bytes, os = [.data bytes] ∧ d.map BitVec.toNat = bytes)) := by
  rcases h with ⟨hos, hd⟩ | ⟨htakes, bytes, hos, hbytes, rfl⟩
  · exact ⟨.inr hd, .inl ⟨hos, hd⟩⟩
  · exact ⟨.inl htakes, .inr ⟨htakes, bytes, hos, map_toNat_map_ofNat hbytes⟩⟩

/-! ### Operands in their ranges stand for values -/

theorem exists_ctypeOperands {op : Op} {os : List AsmOperand}
    (h : if op.usesCtype = true then (∃ t, os = [.name t]) ∨ ∃ n ≤ 31, os = [.num n] else os = []) :
    ∃ c, CtypeOperands op os c := by
  unfold CtypeOperands
  split_ifs at h ⊢
  · rcases h with ⟨t, hos⟩ | ⟨n, hn, hos⟩
    · exact ⟨_, .inl ⟨t, hos, rfl⟩⟩
    · exact ⟨_, .inr ⟨n, hn, hos, rfl⟩⟩
  · exact ⟨_, h, rfl⟩

theorem exists_seqOperands {op : Op} {os : List AsmOperand}
    (h : if op.usesSeq = true then ∃ n ≤ 255, os = [.num n] else os = []) : ∃ q, SeqOperands op os q := by
  unfold SeqOperands
  split_ifs at h ⊢
  · obtain ⟨n, hn, hos⟩ := h
    exact ⟨_, n, hn, hos, rfl⟩
  · exact ⟨_, h, rfl⟩

theorem exists_dataOperands {op : Op} {os : List AsmOperand}
    (h : os = [] ∨ (op.takesData = true ∧ ∃ bytes, os = [.data bytes] ∧ ∀ n ∈ bytes, n ≤ 255)) :
    ∃ d, DataOperands op os d := by
  rcases h with hos | ⟨htakes, bytes, hos, hbytes⟩
  · exact ⟨_, .inl ⟨hos, rfl⟩⟩
  · exact ⟨_, .inr ⟨htakes, bytes, hos, hbytes, rfl⟩⟩

/-- Settles O7: the instruction is the one of the values that the line's operands stand for; operands in their ranges stand
for values. -/
theorem assembledLinesAreLegal : Obligations.AssembledLinesAreLegal := by
  refine ⟨?legal, ?assembles⟩
  case legal =>
    rintro ⟨op, operands⟩ r maxData hasm hlen
    obtain ⟨ctypes, seqs, datas, c, q, d, hoperands, hctypes, hseqs, hdatas, rfl⟩ :=
      (assemble_iff_operands op operands r).mp hasm
    obtain ⟨hc, ctypeValue⟩ := hctypes.value
    obtain ⟨hq, seqValue⟩ := hseqs.value
    obtain ⟨hd, dataValue⟩ := hdatas.value
    obtain ⟨ctypeField, seqField, dataField⟩ := Instr.fields_ofFields_of_unused hc hq hd
    refine ⟨Instr.ofFields op q c d, ctypes, seqs, datas, decode_ofFields hlen hc hq hd, Instr.op_ofFields _ _ _ _,
      hoperands, ?_⟩
    rw [ctypeField, seqField, dataField]
    exact ⟨ctypeValue, seqValue, dataValue⟩
  case assembles =>
    intro op ctypes seqs datas hctypes hseqs hdatas
    obtain ⟨c, hc⟩ := exists_ctypeOperands hctypes
    obtain ⟨q, hq⟩ := exists_seqOperands hseqs
    obtain ⟨d, hd⟩ := exists_dataOperands hdatas
    exact ⟨_, (assemble_iff_operands op _ _).mpr ⟨ctypes, seqs, datas, c, q, d, rfl, hc, hq, hd, rfl⟩⟩

/-! ### The pseudo-instructions (30_encoding R75) -/

/-- Settles O8: each is the encoding of WRCFG, BUILDFRAME or SEND, and the tag decides whether SEND is issued. -/
theorem pseudoInstructionsExpand : Obligations.PseudoInstructionsExpand := by
  refine ⟨by decide, by decide, fun _ _ _ => rfl, ?ok, ?failed⟩
  case ok =>
    rintro ⟨tag, bytes⟩ rfl
    exact congrArg (fun w => some (Request.mk w bytes))
      (by decide : Word.ofFields Op.send.code 0#8 0#5 = 0x00000004#32)
  case failed =>
    rintro ⟨tag, bytes⟩ hnot
    cases tag with
    | ok => exact absurd rfl hnot
    | error | negack => rfl

end Sys2Proof.Machine
end

section
/-! # Every request is answered once

Outside reset a step moves a request from the port to the answered ones, or to the one in progress and from there to the
answered ones, so their number does not change (30_encoding R72; 20_memory R48; 00_scope R6). -/

namespace Sys2Proof.Machine

/-! ### Counting requests -/

theorem State.requestCount_of_free {s : State} (hp : s.progress = none) :
    s.requestCount = s.responses.length + s.host.length := by
  simp [State.requestCount, hp]

theorem State.requestCount_of_held {s : State} {p : Progress} (hp : s.progress = some p) :
    s.requestCount = s.responses.length + 1 + s.host.length := by
  simp [State.requestCount, hp]

/-- One response more is one request more. -/
theorem State.requestCount_of_answered {s t : State} {r : Response} (hs : s.progress = none) (ht : t.progress = none)
    (hresponses : t.responses = s.responses ++ [r]) (hhost : t.host = s.host) :
    t.requestCount = s.requestCount + 1 := by
  rw [requestCount_of_free hs, requestCount_of_free ht, hresponses, hhost, List.length_append, List.length_singleton]
  omega

/-- A transaction with the transport accounts for one request: it is answered or held (00_scope R7). -/
theorem Transaction.requestCount {s t : State} (h : Transaction s t) (hp : s.progress = none) :
    t.requestCount = s.requestCount + 1 := by
  rcases h.outcome with ⟨hfree, r, hresponses, _⟩ | ⟨hresponses, _, p, hheld⟩
  · exact State.requestCount_of_answered hp hfree hresponses h.host
  · rw [State.requestCount_of_free hp, State.requestCount_of_held hheld, hresponses, h.host]
    omega

/-- An instruction accounts for one request, its own, and leaves the reset line (30_encoding R72). -/
theorem exec_requestCount {i : Instr} {s t : State} (hp : s.progress = none) (h : exec i s = .next t) :
    t.requestCount = s.requestCount + 1 ∧ t.resetLine = s.resetLine := by
  cases i with
  | send frame =>
    obtain rfl := Host.Outcome.next.inj h
    have sent := sendFrame_transaction frame .respond s hp
    exact ⟨sent.requestCount hp, sent.resetLine⟩
  | recv =>
    obtain rfl := Host.Outcome.next.inj h
    have received := receive_transaction s hp
    exact ⟨received.requestCount hp, received.resetLine⟩
  | exec seq =>
    obtain rfl := Host.Outcome.next.inj h
    have sent := sendFrame_transaction (frameBytes s.first seq [0x57#8, seq]) .receive (s.setFirst false) hp
    exact ⟨sent.requestCount hp, sent.resetLine⟩
  | build | buildframe =>
    obtain rfl := Host.Outcome.next.inj h
    rw [State.noteUnknown_eq_update]
    exact ⟨State.requestCount_of_answered hp hp rfl rfl, rfl⟩
  | frame | validate | revb | session | wrcfg | rdstat | clrstat =>
    obtain rfl := Host.Outcome.next.inj h
    exact ⟨State.requestCount_of_answered hp hp rfl rfl, rfl⟩

/-- Taking a request from the port leaves one fewer to count. -/
theorem State.requestCount_setHost {s : State} {r : Request} {rest : List Request} (hp : s.progress = none)
    (hh : s.host = r :: rest) : (s.setHost rest).requestCount + 1 = s.requestCount := by
  rw [requestCount_of_free hp, requestCount_of_free (s := s.setHost rest) hp, hh]
  rfl

/-- Releasing the request in progress leaves one fewer to count. -/
theorem State.requestCount_release {s : State} {p : Progress} (hp : s.progress = some p) :
    s.release.requestCount + 1 = s.requestCount := by
  rw [requestCount_of_held hp, requestCount_of_free (s := s.release) rfl, State.release_responses, State.release_host]
  omega

/-! ### Over a step, and over a run -/

/-- A step outside reset counts the same requests, and does not assert reset. -/
theorem step_requestCount {s t : State} (hreset : s.resetLine = false) (h : step s = .next t) :
    t.requestCount = s.requestCount ∧ t.resetLine = false := by
  rcases step_cases s with ⟨hr, _⟩ | ⟨_, p, hp, e⟩ | ⟨_, _, _, e⟩ | ⟨_, hp, r, rest, i, hh, _, e⟩ |
    ⟨_, hp, r, rest, err, hh, _, e⟩
  · simp [hreset] at hr
  · obtain rfl := Host.Outcome.next.inj (e.symm.trans h)
    have went := resume_transaction p s
    exact ⟨(went.requestCount rfl).trans (State.requestCount_release hp), went.resetLine.trans hreset⟩
  · obtain rfl := Host.Outcome.next.inj (e.symm.trans h)
    exact ⟨rfl, hreset⟩
  · obtain ⟨hcount, hline⟩ := exec_requestCount (s := s.setHost rest) hp (e.symm.trans h)
    exact ⟨hcount.trans (State.requestCount_setHost hp hh), hline.trans hreset⟩
  · obtain rfl := Host.Outcome.next.inj (e.symm.trans h)
    have hcount := State.requestCount_of_answered (s := s.setHost rest) (t := (s.setHost rest).raiseIllegal) hp hp rfl rfl
    exact ⟨hcount.trans (State.requestCount_setHost hp hh), hreset⟩

/-- Every step answers a next state (60_exceptions R171). -/
theorem step_eq_next (s : State) : ∃ t, step s = .next t := by
  rcases step_cases s with ⟨_, e⟩ | ⟨_, p, _, e⟩ | ⟨_, _, _, e⟩ | ⟨_, _, r, rest, i, _, _, e⟩ | ⟨_, _, r, rest, err, _, _, e⟩
  · exact ⟨_, e⟩
  · exact ⟨_, e⟩
  · exact ⟨_, e⟩
  · rw [e]
    exact exec_eq_next i _
  · exact ⟨_, e⟩

/-- A run of one step more is the run of the rest from the state the step answers. -/
theorem run_succ {s t : State} (n : Nat) (h : step s = .next t) :
    Host.Core.run Sys2Proof.core (n + 1) s = Host.Core.run Sys2Proof.core n t := by
  have hstep : Sys2Proof.core.step s = .next t := h
  simp [Host.Core.run, hstep]

/-- Settles O52: induction on the number of steps, each of which counts the same requests and only appends responses. -/
theorem everyRequestGetsOneResponse : Obligations.EveryRequestGetsOneResponse := by
  intro n
  induction n with
  | zero => exact fun s _ => ⟨s, rfl, rfl, by simp⟩
  | succ n ih =>
    intro s hreset
    obtain ⟨t, h⟩ := step_eq_next s
    obtain ⟨hcount, hline⟩ := step_requestCount hreset h
    obtain ⟨_, _, hresponses, _⟩ := outputsOnlyGrow s t h
    obtain ⟨u, hrun, hcounts, hgrows⟩ := ih t hline
    exact ⟨u, (run_succ n h).trans hrun, hcounts.trans hcount, hresponses.trans hgrows⟩

end Sys2Proof.Machine
end

section
/-! # The Frame Builder

The descriptor is the template with its placeholder, where it has one, replaced (40_builder R82); the command bytes are id,
descriptor and payload, or the payload alone for an unknown type, which in strict mode also sets UNK (40_builder R83,
R84). -/

namespace Sys2Proof.Machine

/-! ### The descriptor (40_builder R81, R82) -/

/-- A type has a placeholder just when it is LoadBitmap or CmdW (40_builder R81). -/
theorem cmdPos_eq_none_iff (p : Params) (t : CmdType) : cmdPos p t = none ↔ t ≠ .loadBitmap ∧ t ≠ .cmdW := by
  cases t <;> simp [cmdPos]

/-- With a placeholder, the descriptor is the template with that byte replaced (40_builder R82). -/
theorem descriptor_of_placeholder {p : Params} {t : CmdType} {k : Nat} (seq : Byte) (hpos : cmdPos p t = some k) :
    descriptor p t seq = (cmdTmpl p t).set k seq := by
  simp [descriptor, hpos]

/-- Without a placeholder, the descriptor is the template (40_builder R82). -/
theorem descriptor_of_no_placeholder {p : Params} {t : CmdType} (seq : Byte) (hpos : cmdPos p t = none) :
    descriptor p t seq = cmdTmpl p t := by
  simp [descriptor, hpos]

/-- Replacing the placeholder keeps the template's length (40_builder R82). -/
@[simp] theorem descriptor_length (p : Params) (t : CmdType) (seq : Byte) :
    (descriptor p t seq).length = (cmdTmpl p t).length := by
  cases hpos : cmdPos p t with
  | none => rw [descriptor_of_no_placeholder seq hpos]
  | some k => rw [descriptor_of_placeholder seq hpos, List.length_set]

/-- The descriptor has the sequence number at a placeholder inside the template (40_builder R82). -/
theorem descriptor_getElem?_placeholder {p : Params} {t : CmdType} {k : Nat} (seq : Byte) (hpos : cmdPos p t = some k)
    (hk : k < (cmdTmpl p t).length) : (descriptor p t seq)[k]? = some seq := by
  rw [descriptor_of_placeholder seq hpos, List.getElem?_set_self hk]

/-- Everywhere but at the placeholder the descriptor is the template (40_builder R82, R88). -/
theorem descriptor_getElem?_of_ne {p : Params} {t : CmdType} {k : Nat} (seq : Byte) (hne : cmdPos p t ≠ some k) :
    (descriptor p t seq)[k]? = (cmdTmpl p t)[k]? := by
  cases hpos : cmdPos p t with
  | none => rw [descriptor_of_no_placeholder seq hpos]
  | some j =>
    have hjk : j ≠ k := fun e => hne (e ▸ hpos)
    rw [descriptor_of_placeholder seq hpos, List.getElem?_set_ne hjk]

/-- LoadBitmap's placeholder is inside its template (40_builder R81). -/
theorem posLoadBitmap_lt_of_wf {p : Params} (hwf : p.wf = true) :
    p.cmdTab.posLoadBitmap < p.cmdTab.loadBitmap.tmpl.length := by
  simp only [Params.wf, Bool.and_eq_true, decide_eq_true_eq] at hwf
  obtain ⟨⟨⟨⟨_, hpos⟩, _⟩, _⟩, _⟩ := hwf
  exact hpos

/-- Settles O23: LoadBitmap's placeholder is inside its template, CmdW's is the whole of it, and no other type has one. -/
theorem descriptorReplacesOnlyThePlaceholder : Obligations.DescriptorReplacesOnlyThePlaceholder := by
  intro p seq hwf
  refine ⟨rfl, descriptor_length p .loadBitmap seq, ?placeholder, ?elsewhere, ?others⟩
  case placeholder => exact descriptor_getElem?_placeholder seq rfl (posLoadBitmap_lt_of_wf hwf)
  case elsewhere =>
    intro k hk
    exact descriptor_getElem?_of_ne (t := .loadBitmap) seq fun e => hk (Option.some.inj e).symm
  case others =>
    intro t hbitmap hw
    exact descriptor_of_no_placeholder seq ((cmdPos_eq_none_iff p t).mpr ⟨hbitmap, hw⟩)

/-! ### BUILD (40_builder R83 to R85) -/

/-- The command bytes of a named type (40_builder R83). -/
theorem commandBytes_named (p : Params) (t : CmdType) (seq : Byte) (payload : List Byte) :
    commandBytes p (.named t) seq payload = cmdId p t :: (descriptor p t seq ++ payload) := rfl

/-- The command bytes of an unknown type (40_builder R84). -/
theorem commandBytes_unknown (p : Params) (code : BitVec 5) (seq : Byte) (payload : List Byte) :
    commandBytes p (.unknown code) seq payload = payload := rfl

/-- A named type sets no flag (40_builder R83). -/
theorem State.noteUnknown_named (s : State) (t : CmdType) : s.noteUnknown (.named t) = s := rfl

/-- An unknown type sets UNK just in strict mode (40_builder R84). -/
theorem State.noteUnknown_unknown (s : State) (code : BitVec 5) :
    s.noteUnknown (.unknown code)
      = { s with sticky := if s.strict = true then s.sticky ||| 0x02#7 else s.sticky } := by
  have hmask : stickyMask .unk = 0x02#7 := by decide
  cases hstrict : s.strict with
  | true => simp [noteUnknown, CType.isUnknown, hstrict, flag, hmask]
  | false => simp [noteUnknown, CType.isUnknown, hstrict]

/-- BUILD answers the command bytes (40_builder R83, R84). -/
theorem exec_build_eq (ctype : CType) (seq : Byte) (payload : List Byte) (s : State) :
    exec (.build ctype seq payload) s
      = .next ((s.noteUnknown ctype).respond .ok (commandBytes s.params ctype seq payload)) := rfl

/-- BUILD of a named type only answers (40_builder R83, R85). -/
theorem exec_build_named (t : CmdType) (seq : Byte) (payload : List Byte) (s : State) :
    exec (.build (.named t) seq payload) s
      = .next (s.respond .ok (cmdId s.params t :: (descriptor s.params t seq ++ payload))) := by
  rw [exec_build_eq, State.noteUnknown_named, commandBytes_named]

/-- Settles O22: the descriptor is as long as the template, so it ends where the payload begins. -/
theorem buildLayoutOfNamedType : Obligations.BuildLayoutOfNamedType := by
  intro t seq payload s
  refine ⟨_, _, exec_build_named t seq payload s, rfl, rfl, ?descriptor, ?payload, ?template⟩
  case descriptor =>
    rw [List.drop_one, List.tail_cons]
    exact List.take_left' (descriptor_length s.params t seq)
  case payload =>
    rw [Nat.add_comm, List.drop_succ_cons]
    exact List.drop_left' (descriptor_length s.params t seq)
  case template => exact fun k => descriptor_getElem?_of_ne seq

/-- Settles O20: each type's row of the command table, with the placeholder replaced for LoadBitmap and CmdW. -/
theorem buildOfNamedType : Obligations.BuildOfNamedType := by
  intro t seq payload s
  rw [exec_build_named]
  cases t with
  | loadBitmap | cmdW => rw [descriptor_of_placeholder seq rfl]; rfl
  | loadText | cmd3 | cmd5 | cmdR | cmdX | cmdT | clearRam => rw [descriptor_of_no_placeholder seq rfl]; rfl

/-! ### BUILDFRAME of an unknown type (40_builder R84; 41_framer R106) -/

/-- The checksum in both layouts: `0x1C` is the sum of the header's constant bytes `1B` and `01` (00_scope R11). -/
theorem sum8_body (seq : Byte) (command : List Byte) :
    sum8 (firstBody seq command) = BitVec.ofNat 8 (0x1C + seq.toNat + (command.map BitVec.toNat).sum) ∧
      sum8 (laterBody seq command) = BitVec.ofNat 8 (0x1C + seq.toNat + (command.map BitVec.toNat).sum) :=
  ⟨congrArg (BitVec.ofNat 8) (by simp [firstBody, masterAddr]; omega),
    congrArg (BitVec.ofNat 8) (by simp [laterBody, masterAddr]; omega)⟩

/-- A frame in both layouts: header, command bytes, checksum and terminator (41_framer R102, R103). -/
theorem frameBytes_eq (first : Bool) (seq : Byte) (command : List Byte) :
    frameBytes first seq command =
      (if first = true then [0x00#8, 0xFF#8, 0x1B#8, 0x01#8, seq, 0x00#8, 0x00#8] else [0x1B#8, 0x01#8, seq])
        ++ command ++ [BitVec.ofNat 8 (0x1C + seq.toNat + (command.map BitVec.toNat).sum)]
        ++ [0x0D#8, 0x0A#8, 0x55#8, 0x00#8] := by
  obtain ⟨hfirst, hlater⟩ := sum8_body seq command
  cases first with
  | true => simp only [frameBytes, hfirst]; rfl
  | false => simp only [frameBytes, hlater]; rfl

/-- Without command bytes a frame is header, checksum and terminator only (40_builder R84). -/
theorem frameBytes_nil (first : Bool) (seq : Byte) :
    frameBytes first seq [] =
      (if first = true then [0x00#8, 0xFF#8, 0x1B#8, 0x01#8, seq, 0x00#8, 0x00#8] else [0x1B#8, 0x01#8, seq])
        ++ [BitVec.ofNat 8 (0x1C + seq.toNat), 0x0D#8, 0x0A#8, 0x55#8, 0x00#8] := by
  rw [frameBytes_eq, List.append_nil, List.append_assoc]
  rfl

/-- BUILDFRAME answers the frame of BUILD's command bytes and clears FIRST (41_framer R105, R106). -/
theorem exec_buildframe_eq (ctype : CType) (seq : Byte) (payload : List Byte) (s : State) :
    exec (.buildframe ctype seq payload) s = .next (((s.noteUnknown ctype).respond .ok
      (frameBytes s.first seq (commandBytes s.params ctype seq payload))).setFirst false) := rfl

/-- Settles O21: the command bytes are the payload, the flag is that of `noteUnknown_unknown`, and the frame is the one
without command bytes. -/
theorem buildOfUnknownType : Obligations.BuildOfUnknownType := by
  intro code seq payload s
  refine ⟨?build, ?buildframe⟩
  case build =>
    rw [exec_build_eq, State.noteUnknown_unknown, commandBytes_unknown]
    rfl
  case buildframe =>
    rw [exec_buildframe_eq, State.noteUnknown_unknown, commandBytes_unknown, frameBytes_nil]
    rfl

end Sys2Proof.Machine
end

section
/-! # The Packet Framer

Both layouts are a header, the command bytes, the checksum and the terminator, and only the header depends on FIRST
(41_framer R102, R103). The facts about the bytes of a frame are proved once for that shape, from the header and its length;
the statements of each layout are read off them. -/

namespace Sys2Proof.Machine

/-! ### The checksum (00_scope R11; 41_framer R104, R107) -/

/-- The checksum byte of both layouts, from the byte sum of the command (41_framer R107). -/
theorem checksum_eq_sum8 (seq : Byte) (command : List Byte) :
    BitVec.ofNat 8 (0x1C + seq.toNat + (command.map BitVec.toNat).sum)
      = BitVec.ofNat 8 ((0x1C + seq.toNat + (sum8 command).toNat) % 256) := by
  have hsum : (sum8 command).toNat = (command.map BitVec.toNat).sum % 256 := BitVec.toNat_ofNat _ _
  apply BitVec.eq_of_toNat_eq
  rw [BitVec.toNat_ofNat, BitVec.toNat_ofNat, hsum]
  omega

/-! ### The bytes of a frame (41_framer R102, R103) -/

/-- What stands before the command bytes: seven bytes in a first frame, three in a later one (41_framer R102, R103). -/
def frameHeader (first : Bool) (seq : Byte) : List Byte :=
  if first = true then [0x00#8, 0xFF#8, 0x1B#8, 0x01#8, seq, 0x00#8, 0x00#8] else [0x1B#8, 0x01#8, seq]

/-- A frame is its header, then the command bytes, then checksum and terminator (41_framer R101). -/
theorem frameBytes_eq_header (first : Bool) (seq : Byte) (command : List Byte) :
    frameBytes first seq command = (frameHeader first seq ++ command)
      ++ (BitVec.ofNat 8 (0x1C + seq.toNat + (command.map BitVec.toNat).sum) :: term) := by
  rw [frameBytes_eq, List.append_assoc _ [_]]
  rfl

/-- What the checksum of a first frame covers is all before it but the RF-init bytes (41_framer R104). -/
theorem drop_two_frameHeader_append (seq : Byte) (command : List Byte) :
    (frameHeader true seq ++ command).drop 2 = firstBody seq command := rfl

/-- What the checksum of a later frame covers is all before it (41_framer R104). -/
theorem frameHeader_false_append (seq : Byte) (command : List Byte) :
    frameHeader false seq ++ command = laterBody seq command := rfl

/-- Besides header and command bytes a frame has checksum and terminator, five bytes (41_framer R110). -/
theorem frameBytes_length (first : Bool) (seq : Byte) (command : List Byte) :
    (frameBytes first seq command).length = (frameHeader first seq ++ command).length + 5 := by
  rw [frameBytes_eq_header, List.length_append]
  rfl

/-- A first frame is twelve bytes longer than its command (41_framer R110). -/
theorem frameBytes_true_length (seq : Byte) (command : List Byte) :
    (frameBytes true seq command).length = command.length + 12 := by
  simp [frameBytes_length, frameHeader]

/-- A later frame is eight bytes longer than its command (41_framer R110). -/
theorem frameBytes_false_length (seq : Byte) (command : List Byte) :
    (frameBytes false seq command).length = command.length + 8 := by
  simp [frameBytes_length, frameHeader]

/-- Header and command bytes are what stands before the checksum (41_framer R104). -/
theorem frameBytes_take {first : Bool} {seq : Byte} {command : List Byte} {k : Nat}
    (hk : k = (frameHeader first seq).length + command.length) :
    (frameBytes first seq command).take k = frameHeader first seq ++ command := by
  rw [frameBytes_eq_header]
  exact List.take_left' (List.length_append.trans hk.symm)

/-- The checksum follows header and command bytes (41_framer R102, R103). -/
theorem frameBytes_getElem?_checksum {first : Bool} {seq : Byte} {command : List Byte} {k : Nat}
    (hk : k = (frameHeader first seq).length + command.length) :
    (frameBytes first seq command)[k]? =
      some (BitVec.ofNat 8 (0x1C + seq.toNat + (command.map BitVec.toNat).sum)) := by
  rw [frameBytes_eq_header, hk, ← List.length_append, List.getElem?_append_right le_rfl, Nat.sub_self,
    List.getElem?_cons_zero]

/-- The terminator ends every frame (41_framer R109). -/
theorem frameBytes_drop_eq_term (first : Bool) (seq : Byte) (command : List Byte) :
    (frameBytes first seq command).drop ((frameBytes first seq command).length - 4) = term := by
  rw [frameBytes_length, frameBytes_eq]
  exact List.drop_left' List.length_append

/-- Less checksum and terminator, a frame holds the command bytes after its header (41_framer R113). -/
theorem command_of_frameBytes (first : Bool) (seq : Byte) (command : List Byte) :
    ((frameBytes first seq command).take ((frameBytes first seq command).length - 5)).drop
      (frameHeader first seq).length = command := by
  rw [frameBytes_take (by rw [frameBytes_length, List.length_append]; rfl)]
  exact List.drop_left

/-- Settles O27: the checksum stands behind the header and the command bytes in both layouts. -/
theorem checksumsOfTheTwoLayoutsAgree : Obligations.ChecksumsOfTheTwoLayoutsAgree := by
  intro seq command
  rw [← checksum_eq_sum8]
  exact ⟨frameBytes_getElem?_checksum rfl, frameBytes_getElem?_checksum rfl⟩

/-- Settles O28: `n` is the length of the command, and what the documented range holds is the layout's body, whose byte sum
`sum8_body` gives. -/
theorem frameChecksumRoundTrip : Obligations.FrameChecksumRoundTrip := by
  intro seq command
  obtain ⟨hfirst, hlater⟩ := sum8_body seq command
  constructor
  · have hk : 7 + command.length = (frameHeader true seq).length + command.length := rfl
    refine ⟨_, command.length, rfl, ?_, ?_⟩
    · rw [frameBytes_true_length, Nat.add_sub_cancel]
    · rw [frameBytes_getElem?_checksum hk, frameBytes_take hk, drop_two_frameHeader_append, hfirst]
  · have hk : 3 + command.length = (frameHeader false seq).length + command.length := rfl
    refine ⟨_, command.length, rfl, ?_, ?_⟩
    · rw [frameBytes_false_length, Nat.add_sub_cancel]
    · rw [frameBytes_getElem?_checksum hk, frameBytes_take hk, frameHeader_false_append, hlater]

/-- Settles O29: the ends are those of header and terminator, the lengths those of `frameBytes_true_length` and
`frameBytes_false_length`. -/
theorem frameBeginningEndAndLength : Obligations.FrameBeginningEndAndLength := by
  intro seq command
  refine ⟨fun first => ⟨_, rfl, frameBytes_drop_eq_term first seq command⟩, ?_, ?_, frameBytes_true_length seq command,
    frameBytes_false_length seq command⟩
  · rw [frameBytes_eq_header]; rfl
  · rw [frameBytes_eq_header]; rfl

/-- Settles O30: the command bytes by `command_of_frameBytes`, the sequence number at its offset in the header. -/
theorem commandBytesAreRecoverable : Obligations.CommandBytesAreRecoverable := by
  intro seq command
  refine ⟨⟨_, rfl, command_of_frameBytes true seq command, ?_⟩, _, rfl, command_of_frameBytes false seq command, ?_⟩
  · rw [frameBytes_eq_header]; rfl
  · rw [frameBytes_eq_header]; rfl

/-! ### FRAME and BUILDFRAME (41_framer R101, R105, R106) -/

/-- FRAME answers the frame in the layout FIRST selects and clears FIRST (41_framer R101, R105). -/
theorem exec_frame_eq (seq : Byte) (command : List Byte) (s : State) :
    exec (.frame seq command) s = .next ((s.respond .ok (frameBytes s.first seq command)).setFirst false) := rfl

/-- Settles O25: the layout of `frameBytes_eq` with FIRST set. -/
theorem frameOfFirstLayout : Obligations.FrameOfFirstLayout := by
  intro seq command s hfirst
  rw [exec_frame_eq, frameBytes_eq, hfirst]
  rfl

/-- Settles O26: the layout of `frameBytes_eq` with FIRST clear, which the write of FIRST leaves so. -/
theorem frameOfLaterLayout : Obligations.FrameOfLaterLayout := by
  intro seq command s hfirst
  rw [exec_frame_eq, frameBytes_eq, hfirst]
  rfl

/-- BUILD's state less its response is the state with its flag (40_builder R83, R84). -/
theorem State.noteUnknown_respond_withdrawn (s : State) (ctype : CType) (tag : Tag) (bytes : List Byte) :
    { (s.noteUnknown ctype).respond tag bytes with responses := s.responses } = s.noteUnknown ctype := by
  rw [s.noteUnknown_eq_update]
  rfl

@[simp] theorem State.noteUnknown_first (s : State) (ctype : CType) : (s.noteUnknown ctype).first = s.first := by
  rw [s.noteUnknown_eq_update]

@[simp] theorem State.noteUnknown_responses (s : State) (ctype : CType) :
    (s.noteUnknown ctype).responses = s.responses := by
  rw [s.noteUnknown_eq_update]

/-- Settles O32: without BUILD's response, FRAME starts from the state with BUILD's flag, where FIRST is as it was. -/
theorem buildframeIsBuildThenFrame : Obligations.BuildframeIsBuildThenFrame := by
  intro ctype seq payload s
  refine ⟨_, commandBytes s.params ctype seq payload, _, exec_build_eq ctype seq payload s, ?responses, ?frame,
    exec_buildframe_eq ctype seq payload s⟩
  case responses => rw [State.respond_responses, State.noteUnknown_responses]
  case frame => rw [State.noteUnknown_respond_withdrawn, exec_frame_eq, State.noteUnknown_first]

/-! ### FIRST and the transport (41_framer R105; 70_reset R193) -/

/-- Judging a reply leaves FIRST (42_serial R129). -/
@[simp] theorem State.judge_first (s : State) (reply : List Byte) : (s.judge reply).first = s.first := by
  rcases s.judge_cases reply with ⟨_, e⟩ | ⟨_, e⟩ | ⟨_, e⟩ <;> simp [e]

/-- Receiving leaves FIRST, whatever the read's answer (42_serial R128). -/
@[simp] theorem receive_first (s : State) : (receive s).first = s.first := by
  rcases receive_cases s with ⟨_, e⟩ | ⟨_, e⟩ | ⟨reply, _, e⟩ <;> simp [e]

/-- What follows the last write leaves FIRST (42_serial R124, R131). -/
@[simp] theorem afterSend_first (frame : List Byte) (after : After) (s : State) :
    (afterSend frame after s).first = s.first := by
  cases after with
  | respond => rfl
  | receive => exact receive_first s

@[simp] theorem State.written_first (s : State) (w : List Byte) (k : Nat) : (s.written w k).first = s.first := rfl

/-- Writing leaves FIRST, whatever the writes' answers (42_serial R124, R125; 70_reset R193). -/
@[simp] theorem transmit_first (frame : List Byte) (after : After) (w : List Byte) (s : State) :
    (transmit frame after w s).first = s.first := by
  rcases transmit_cases frame after w s with ⟨_, e⟩ | ⟨k, _, _, ⟨_, e⟩ | ⟨_, e⟩ | ⟨_, e⟩⟩ <;> simp [e]

/-- Sending leaves FIRST (42_serial R124; 70_reset R193). -/
@[simp] theorem sendFrame_first (frame : List Byte) (after : After) (s : State) :
    (sendFrame frame after s).first = s.first := by
  rcases sendFrame_cases frame after s with ⟨_, e⟩ | ⟨_, e⟩ <;> simp [e]

/-- Settles O31: FRAME and BUILDFRAME end with the write of FIRST; EXEC writes it before it sends, and sending leaves it. -/
theorem framingClearsFirst : Obligations.FramingClearsFirst := by
  refine ⟨?frame, ?buildframe, ?exec, ?send⟩
  case frame => exact fun seq command s => ⟨_, exec_frame_eq seq command s, State.setFirst_first _ false⟩
  case buildframe =>
    exact fun ctype seq payload s => ⟨_, exec_buildframe_eq ctype seq payload s, State.setFirst_first _ false⟩
  case exec => exact fun seq s => ⟨_, exec_exec_eq_transmit seq s, transmit_first _ _ _ (s.setFirst false)⟩
  case send => exact fun bytes s => ⟨_, rfl, sendFrame_first bytes .respond s⟩

end Sys2Proof.Machine
end

section
/-! # The Response Validator and the serial encoder

SEND, RECV, VALIDATE, EXEC and REVB (42_serial). The markers decide the verdict, the verdict decides how a read ends, and a
transmission ends as its first write that is not answered ok: one rule for each, which the statements cite. -/

namespace Sys2Proof.Machine

/-! ### The verdict (42_serial R120 to R122) -/

/-- The strict check as questions about the markers, in its order (42_serial R122; 00_scope R8). -/
theorem strictVerdict_eq_markers (offsets : List Nat) (reply : List Byte) :
    strictVerdict offsets reply =
      if ∃ o ∈ offsets, reply.length ≤ o then .invalid
      else if ∀ o ∈ offsets, reply[o]? = some 0x06#8 then .positive
      else if ∃ o ∈ offsets, reply[o]? = some 0x15#8 then .negative
      else .invalid := by
  simp only [strictVerdict, ackPos, ackNeg, List.any_eq_true, List.all_eq_true, decide_eq_true_eq, beq_iff_eq]

/-- A reply that some offset is outside of is invalid (42_serial R122). -/
theorem strictVerdict_of_short {offsets : List Nat} {reply : List Byte} (hshort : ∃ o ∈ offsets, reply.length ≤ o) :
    strictVerdict offsets reply = .invalid := by
  rw [strictVerdict_eq_markers, if_pos hshort]

/-- A reply that holds some other byte than 0x06 at an offset is not accepted; 0x15 at some offset makes it negative
(42_serial R122). -/
theorem strictVerdict_of_not_positive {offsets : List Nat} {reply : List Byte}
    (hlong : ∀ o ∈ offsets, o < reply.length) (hnot : ∃ o ∈ offsets, reply[o]? ≠ some 0x06#8) :
    strictVerdict offsets reply = if ∃ o ∈ offsets, reply[o]? = some 0x15#8 then .negative else .invalid := by
  have hshort : ¬ ∃ o ∈ offsets, reply.length ≤ o := fun ⟨o, ho, hle⟩ => (hlong o ho).not_ge hle
  have hpos : ¬ ∀ o ∈ offsets, reply[o]? = some 0x06#8 := fun h => hnot.elim fun o ⟨ho, hne⟩ => hne (h o ho)
  rw [strictVerdict_eq_markers, if_neg hshort, if_neg hpos]

/-- Settles O40: one clause of `strictVerdict_eq_markers` for each; an empty reply is too short for every offset. -/
theorem strictVerdictByMarkers : Obligations.StrictVerdictByMarkers := by
  intro offsets reply
  refine ⟨strictVerdict_of_short, fun hlong => ⟨?positive, ?negative, ?invalid⟩, ?empty⟩
  case positive => exact (strictVerdict_eq_positive_iff offsets reply).mpr
  case negative =>
    intro hnot hneg
    rw [strictVerdict_of_not_positive hlong hnot, if_pos hneg]
  case invalid =>
    intro hnot hnone
    rw [strictVerdict_of_not_positive hlong hnot, if_neg fun ⟨o, ho, hneg⟩ => hnone o ho hneg]
  case empty =>
    intro hne
    obtain ⟨o, ho⟩ := List.exists_mem_of_ne_nil offsets hne
    exact strictVerdict_of_short ⟨o, ho, o.zero_le⟩

/-- In permissive mode every reply is accepted (42_serial R120). -/
theorem verdict_of_permissive {s : State} (hmode : s.cfg.getLsbD 0 = false) (reply : List Byte) :
    verdict s.params s.strict reply = .positive := by
  simp only [verdict, State.strict, hmode]

/-- In strict mode the verdict is the strict check at ACK_OFFSETS (42_serial R121, R122). -/
theorem verdict_of_strict {s : State} (hmode : s.cfg.getLsbD 0 = true) (reply : List Byte) :
    verdict s.params s.strict reply = strictVerdict s.params.ackOffsets reply := by
  simp only [verdict, State.strict, hmode]

/-! ### VALIDATE (42_serial R120, R123) -/

/-- VALIDATE answers the verdict's byte and does nothing else (42_serial R123). -/
theorem exec_validate_eq (reply : List Byte) (s : State) :
    exec (.validate reply) s = .next (s.respond .ok [(verdict s.params s.strict reply).byte]) := rfl

/-- Settles O41: by the mode, and in strict mode by the branches of `strictVerdict_eq_markers`. -/
theorem validateAnswersTheVerdict : Obligations.ValidateAnswersTheVerdict := by
  intro reply s
  rw [exec_validate_eq]
  cases hmode : s.cfg.getLsbD 0 with
  | false => rw [verdict_of_permissive hmode, if_pos rfl]; rfl
  | true =>
    rw [verdict_of_strict hmode, strictVerdict_eq_markers, if_neg Bool.true_eq_false_eq_False]
    split_ifs <;> rfl

/-- Settles O42: CFG is 0 after reset, and in permissive mode the verdict is positive. -/
theorem permissiveModeAcceptsEverything : Obligations.PermissiveModeAcceptsEverything := by
  refine ⟨rfl, fun reply s hmode => ?_⟩
  rw [exec_validate_eq, verdict_of_permissive hmode]
  rfl

/-! ### RECV (42_serial R128, R129) -/

/-- A failed read is entered and sets RXF (42_serial R128). -/
theorem receive_of_fail {s : State} (hread : s.rxAnswer s.rxPolls = some .fail) :
    receive s = (s.tickRx.logRead .fail).fail .rxf := by
  simp only [receive, hread]

/-- An answered read is entered, and its reply is judged (42_serial R128). -/
theorem receive_of_reply {s : State} {reply : List Byte} (hread : s.rxAnswer s.rxPolls = some (.ok reply)) :
    receive s = (s.tickRx.logRead (.ok reply)).judge reply := by
  simp only [receive, hread]

/-- A reply judged positive is the response (42_serial R128). -/
theorem State.judge_of_positive {s : State} {reply : List Byte} (hv : verdict s.params s.strict reply = .positive) :
    s.judge reply = s.respond .ok reply := by
  simp only [State.judge, hv]

/-- A reply judged negative is the NEGACK response and sets NAK (42_serial R129). -/
theorem State.judge_of_negative {s : State} {reply : List Byte} (hv : verdict s.params s.strict reply = .negative) :
    s.judge reply = (s.flag .nak).respond .negack reply := by
  simp only [State.judge, hv]

/-- A reply judged invalid is a failure and sets INV (42_serial R129). -/
theorem State.judge_of_invalid {s : State} {reply : List Byte} (hv : verdict s.params s.strict reply = .invalid) :
    s.judge reply = s.fail .inv := by
  simp only [State.judge, hv]

/-- Settles O37: RECV is one read, and it fails. -/
theorem recvOfFailedRead : Obligations.RecvOfFailedRead := by
  intro s hread
  rw [exec_recv_eq_receive, receive_of_fail hread]
  rfl

/-- Settles O38: in permissive mode the reply is judged positive. -/
theorem recvInPermissiveMode : Obligations.RecvInPermissiveMode := by
  intro s reply hmode hread
  rw [exec_recv_eq_receive, receive_of_reply hread]
  exact congrArg _ (State.judge_of_positive (s := s.tickRx.logRead (.ok reply)) (verdict_of_permissive hmode reply))

/-- Settles O39: the verdict is the strict one, which `strictVerdictByMarkers` gives by the markers, and each verdict
has its rule. -/
theorem recvInStrictMode : Obligations.RecvInStrictMode := by
  intro s reply hmode hread
  obtain ⟨hshort, hlong, _⟩ := strictVerdictByMarkers s.params.ackOffsets reply
  have hstrict := verdict_of_strict hmode reply
  rw [exec_recv_eq_receive, receive_of_reply hread]
  refine ⟨fun hall => ?positive, fun hinside hnot hneg => ?negative, fun hbad => ?invalid⟩
  case positive =>
    have hv := hstrict.trans ((strictVerdict_eq_positive_iff _ _).mpr hall)
    exact congrArg _ (State.judge_of_positive (s := s.tickRx.logRead (.ok reply)) hv)
  case negative =>
    obtain ⟨_, hnegative, _⟩ := hlong hinside
    have hv := hstrict.trans (hnegative hnot hneg)
    exact congrArg _ (State.judge_of_negative (s := s.tickRx.logRead (.ok reply)) hv)
  case invalid =>
    have hinvalid : strictVerdict s.params.ackOffsets reply = .invalid := by
      by_cases hout : ∃ o ∈ s.params.ackOffsets, reply.length ≤ o
      · exact hshort hout
      · obtain ⟨hnot, hnone⟩ := hbad.resolve_left hout
        obtain ⟨_, _, hneither⟩ := hlong fun o ho => Nat.lt_of_not_le fun hle => hout ⟨o, ho, hle⟩
        exact hneither hnot hnone
    have hv := hstrict.trans hinvalid
    exact congrArg _ (State.judge_of_invalid (s := s.tickRx.logRead (.ok reply)) hv)

/-! ### SEND (42_serial R124 to R126) -/

/-- SEND sends its frame and responds (42_serial R124). -/
theorem exec_send_eq_sendFrame (frame : List Byte) (s : State) :
    exec (.send frame) s = .next (sendFrame frame .respond s) := rfl

/-- Settles O36: the branch of SEND for no bytes. -/
theorem sendOfEmptyFrame : Obligations.SendOfEmptyFrame := by
  intro s
  rw [exec_send_eq_sendFrame]
  rcases sendFrame_cases [] .respond s with ⟨_, e⟩ | ⟨hne, _⟩
  · exact congrArg _ e
  · exact absurd rfl hne

/-- Settles O33: all the writes are made, and what follows SEND's last write is the echo. -/
theorem sendWritesAndEchoes : Obligations.SendWritesAndEchoes := by
  intro frame w s hne hw hok
  obtain rfl := hw.trans (wakeWrap_eq _ _).symm
  rw [exec_send_eq_transmit s hne, transmit_of_ok frame .respond hok, State.written_length]
  rfl

/-- Settles O34: the two ways a failed write ends a transmission. -/
theorem sendEndsAtTheFirstFailedWrite : Obligations.SendEndsAtTheFirstFailedWrite := by
  intro frame w k s hne hw hk hok
  obtain rfl := hw.trans (wakeWrap_eq _ _).symm
  rw [exec_send_eq_transmit s hne]
  exact ⟨fun hlost => congrArg _ (transmit_of_failLost frame .respond hk hok hlost),
    fun hsent => congrArg _ (transmit_of_failSent frame .respond hk hok hsent)⟩

/-! ### EXEC (42_serial R131) -/

/-- Settles O43: all the writes are made from the state with FIRST clear, and what follows EXEC's last write is the read. -/
theorem execSendsThenReceives : Obligations.ExecSendsThenReceives := by
  rintro seq k f w s rfl hf hw hok
  obtain rfl := hf.trans (frameBytes_cmdW _ _).symm
  obtain rfl := hw.trans (wakeWrap_eq _ _).symm
  rw [exec_exec_eq_transmit, transmit_of_ok (s := s.setFirst false) _ .receive hok, State.written_length]
  rfl

/-- Settles O44: EXEC goes on as RECV, which in permissive mode returns the reply: `execSendsThenReceives`, then
`recvInPermissiveMode`. -/
theorem execReturnsTheReply : Obligations.ExecReturnsTheReply := by
  intro seq k f w reply s hk hf hw hok hmode hread
  rw [execSendsThenReceives seq k f w s hk hf hw hok]
  exact recvInPermissiveMode _ reply hmode hread

/-- Settles O45: the two ways a failed write ends a transmission, from the state with FIRST clear. -/
theorem execWithFailedSendReadsNothing : Obligations.ExecWithFailedSendReadsNothing := by
  rintro seq chk f w k s rfl hf hw hk hok
  obtain rfl := hf.trans (frameBytes_cmdW _ _).symm
  obtain rfl := hw.trans (wakeWrap_eq _ _).symm
  rw [exec_exec_eq_transmit]
  exact ⟨fun hlost => congrArg _ (transmit_of_failLost (s := s.setFirst false) _ .receive hk hok hlost),
    fun hsent => congrArg _ (transmit_of_failSent (s := s.setFirst false) _ .receive hk hok hsent)⟩

/-! ### REVB (42_serial R132, R133) -/

/-- Bit `k` of a reversed byte is bit `7 - k` of the byte (00_scope R12). -/
theorem rev8_getLsbD (b : Byte) {k : Nat} (hk : k < 8) : (rev8 b).getLsbD k = b.getLsbD (7 - k) := by
  -- The widths of the eight appended bits reduce to 8 only by unification, so the outermost append is rewritten first.
  unfold rev8
  rw [BitVec.getLsbD_append]
  simp only [BitVec.getLsbD_append]
  interval_cases k <;> simp

/-- Reversing a byte twice gives it back (00_scope R12). -/
theorem rev8_involutive : Function.Involutive rev8 := by
  intro b
  apply BitVec.eq_of_getLsbD_eq
  intro k hk
  rw [rev8_getLsbD _ hk, rev8_getLsbD _ (by omega), Nat.sub_sub_self (by omega)]

/-- REVB answers the reversed bytes and does nothing else (42_serial R132, R133). -/
theorem exec_revb_eq (bytes : List Byte) (s : State) :
    exec (.revb bytes) s = .next (s.respond .ok (bytes.map rev8)) := rfl

/-- Settles O46: the bytes are reversed one by one, each by `rev8`, which is its own inverse. -/
theorem revbReversesEveryByte : Obligations.RevbReversesEveryByte := by
  intro bytes s
  refine ⟨bytes.map rev8, exec_revb_eq bytes s, List.length_map _, ?bits, ?inverse⟩
  case bits =>
    intro j a b ha hb k hk
    rw [List.getElem?_map, ha] at hb
    obtain rfl : rev8 a = b := Option.some.inj hb
    exact rev8_getLsbD a hk
  case inverse =>
    intro u
    rw [exec_revb_eq, List.map_map, rev8_involutive.comp_self, List.map_id]
    rfl

end Sys2Proof.Machine
end

section
/-! # Session and control

SESSION, WRCFG, RDSTAT and CLRSTAT (43_control): each is one update of FIRST, CFG or STATUS, or none, and one response. What
is not by definition is CFG: it is written and read through a mask, and the statements speak of its bits. -/

namespace Sys2Proof.Machine

/-! ### What each operation does -/

/-- SESSION writes FIRST and responds (43_control R150). -/
theorem exec_session_eq (s : State) : exec .session s = .next ((s.setFirst true).respond .ok []) := rfl

/-- WRCFG writes CFG and responds (43_control R151). -/
theorem exec_wrcfg_eq (imm8 : Byte) (s : State) :
    exec (.wrcfg imm8) s = .next ((s.writeCfg imm8).respond .ok []) := rfl

/-- RDSTAT responds with STATUS and CFG and does nothing else (43_control R152). -/
theorem exec_rdstat_eq (s : State) : exec .rdstat s = .next (s.respond .ok [s.status, s.cfgRead]) := rfl

/-- CLRSTAT clears the sticky bits and responds (43_control R153). -/
theorem exec_clrstat_eq (s : State) : exec .clrstat s = .next (s.clearSticky.respond .ok []) := rfl

/-! ### SESSION (43_control R150) -/

/-- Settles O47: the updates of `exec_session_eq`, field by field. -/
theorem sessionSetsFirst : Obligations.SessionSetsFirst := exec_session_eq

/-- Settles O48: SESSION sets FIRST, so the first FRAME reads it set; that FRAME clears it, so the second reads it clear. -/
theorem framesAfterSession : Obligations.FramesAfterSession := by
  intro s seq1 seq2 c1 c2
  obtain ⟨_, _, hlater, _⟩ := frameBeginningEndAndLength seq2 c2
  refine ⟨_, _, _, frameBytes true seq1 c1, frameBytes false seq2 c2, exec_session_eq s, exec_frame_eq seq1 c1 _,
    exec_frame_eq seq2 c2 _, ?responses, ?first, hlater⟩
  case responses => simp
  case first => rw [frameBytes_eq_header]; rfl

/-! ### WRCFG and RDSTAT (43_control R151, R152) -/

/-- The mask of CFG keeps bit 0 and makes bits 7:1 zero (10_state R22). -/
theorem and_cfgMask_eq_append (v : Byte) : v &&& 0x01#8 = 0#7 ++ BitVec.ofBool (v.getLsbD 0) := by
  rw [BitVec.and_one_eq_setWidth_ofBool_getLsbD]
  cases v.getLsbD 0 <;> rfl

/-- The CFG byte that WRCFG stores, by bit 0 of the immediate (43_control R151). -/
theorem and_cfgMask_eq_ite (v : Byte) : v &&& 0x01#8 = if v.getLsbD 0 = true then 0x01#8 else 0x00#8 := by
  rw [and_cfgMask_eq_append]
  cases v.getLsbD 0 <;> rfl

/-- Settles O49: the immediate is stored through the mask of CFG. -/
theorem wrcfgWritesStrict : Obligations.WrcfgWritesStrict := by
  intro v s
  rw [exec_wrcfg_eq, ← and_cfgMask_eq_ite]
  rfl

/-- Settles O50: STATUS is the sticky bits before FIRST, and CFG is read through its mask. -/
theorem rdstatReadsStatusAndCfg : Obligations.RdstatReadsStatusAndCfg := by
  intro s
  rw [exec_rdstat_eq, ← and_cfgMask_eq_append]
  rfl

/-! ### CLRSTAT (43_control R153) -/

/-- Settles O51: the updates of `exec_clrstat_eq`, field by field. -/
theorem clrstatClearsStickyBits : Obligations.ClrstatClearsStickyBits := exec_clrstat_eq

end Sys2Proof.Machine
end

section
/-! # Failures

No failure stops the block (60_exceptions R171): every step answers a next state, and a failure is a response and a flag. The
one classification of a new response, `FlaggedResponse`, is proved of a transaction, of an instruction and of a step; an
illegal request has its own rule. -/

namespace Sys2Proof.Machine

/-! ### The illegal request (60_exceptions R172) -/

/-- An illegal request at the port of a block that is not busy is taken and answered by `raiseIllegal`
(30_encoding R68; 60_exceptions R172). -/
theorem step_of_illegal {s : State} {r : Request} {rest : List Request} {e : Illegal} (hreset : s.resetLine = false)
    (hp : s.progress = none) (hh : s.host = r :: rest) (hd : decode s.params.maxData r = .error e) :
    step s = .next (s.setHost rest).raiseIllegal := by
  simp [step, State.activity, hreset, hp, hh, hd]

/-- `raise Illegal()` with the bit of ILL and the bytes of the sentinel written out (10_state R24; 60_exceptions R172). -/
theorem State.raiseIllegal_eq_update (s : State) :
    s.raiseIllegal = { s with
      sticky := s.sticky ||| 0x01#7
      responses := s.responses ++ [{ tag := .error, bytes := [0x45#8, 0x52#8, 0x52#8, 0x4F#8, 0x52#8] }] } := by
  have hmask : stickyMask .ill = 0x01#7 := by decide
  rw [← hmask]
  rfl

/-- Settles O10: the step of an illegal request, with `raiseIllegal` and `setHost` written out. -/
theorem illegalRequestOnlySetsIll : Obligations.IllegalRequestOnlySetsIll := by
  intro s r rest e hreset hp hh hd
  rw [step_of_illegal hreset hp hh hd, State.raiseIllegal_eq_update]
  rfl

/-! ### Every step answers (60_exceptions R171, R175) -/

/-- Settles O14: `step_eq_next`, by the five things the block can do. -/
theorem everyStepAnswersNext : Obligations.EveryStepAnswersNext := step_eq_next

/-! ### The flag of a failure response (60_exceptions R170, R173) -/

/-- `r`, as the new response of a step from `s` to `t`, is a success; or a negative acknowledgement in strict mode, with NAK
set; or the sentinel, with the flag of a failure set. -/
def FlaggedResponse (s t : State) (r : Response) : Prop :=
  r.tag = .ok ∨
  (r.tag = .negack ∧ s.strict = true ∧ t.sticky = s.sticky ||| stickyMask .nak) ∨
  (r = { tag := .error, bytes := sentinel } ∧
    ∃ b ∈ [StatusBit.ill, .txf, .rxf, .inv, .emp], t.sticky = s.sticky ||| stickyMask b)

/-- An ERROR response is the sentinel and has its flag (60_exceptions R170). -/
theorem FlaggedResponse.of_error {s t : State} {r : Response} (h : FlaggedResponse s t r) (herror : r.tag = .error) :
    r.bytes = sentinel ∧ ∃ b ∈ [StatusBit.ill, .txf, .rxf, .inv, .emp], t.sticky = s.sticky ||| stickyMask b := by
  rcases h with hok | ⟨hnegack, _⟩ | ⟨rfl, hflag⟩
  · simp [herror] at hok
  · simp [herror] at hnegack
  · exact ⟨rfl, hflag⟩

/-- A NEGACK response comes in strict mode and has NAK (60_exceptions R170; 42_serial R129). -/
theorem FlaggedResponse.of_negack {s t : State} {r : Response} (h : FlaggedResponse s t r) (hnegack : r.tag = .negack) :
    s.cfg.getLsbD 0 = true ∧ t.sticky = s.sticky ||| stickyMask .nak := by
  rcases h with hok | ⟨_, hstrict, hnak⟩ | ⟨rfl, _⟩
  · simp [hnegack] at hok
  · exact ⟨hstrict, hnak⟩
  · simp at hnegack

/-- The one response appended is the new one. -/
theorem eq_of_responses_append {s t : State} {r q : Response} (hq : t.responses = s.responses ++ [q])
    (hr : t.responses = s.responses ++ [r]) : q = r :=
  List.singleton_inj.1 (List.append_cancel_left (hq.symm.trans hr))

/-- A step whose one response is a success has no failure to flag. -/
theorem flaggedResponse_of_ok {s t : State} {r : Response} {bytes : List Byte}
    (hok : t.responses = s.responses ++ [{ tag := .ok, bytes := bytes }]) (hr : t.responses = s.responses ++ [r]) :
    FlaggedResponse s t r := by
  obtain rfl := eq_of_responses_append hok hr
  exact .inl rfl

/-- A transaction with the transport flags its failure (42_serial R124, R125, R128, R129). -/
theorem Transaction.flaggedResponse {s t : State} {r : Response} (h : Transaction s t)
    (hr : t.responses = s.responses ++ [r]) : FlaggedResponse s t r := by
  rcases h.outcome with ⟨_, q, hq, answered⟩ | ⟨hheld, _⟩
  · obtain rfl := eq_of_responses_append hq hr
    rcases answered with ⟨hok, _⟩ | hnegack | ⟨herror, b, hb, hflag⟩
    · exact .inl hok
    · exact .inr (.inl hnegack)
    · exact .inr (.inr ⟨herror, b, List.mem_cons_of_mem _ hb, hflag⟩)
  · simp [hheld] at hr

/-- An instruction flags its failure: only SEND, RECV and EXEC can fail (60_exceptions R170). -/
theorem exec_flaggedResponse {i : Instr} {s t : State} {r : Response} (hp : s.progress = none) (h : exec i s = .next t)
    (hr : t.responses = s.responses ++ [r]) : FlaggedResponse s t r := by
  cases i with
  | send frame =>
    obtain rfl := Host.Outcome.next.inj h
    exact (sendFrame_transaction frame .respond s hp).flaggedResponse hr
  | recv =>
    obtain rfl := Host.Outcome.next.inj h
    exact (receive_transaction s hp).flaggedResponse hr
  | exec seq =>
    obtain rfl := Host.Outcome.next.inj h
    exact (sendFrame_transaction _ .receive (s.setFirst false) hp).flaggedResponse hr
  | build ctype | buildframe ctype =>
    obtain rfl := Host.Outcome.next.inj h
    exact flaggedResponse_of_ok (congrArg (· ++ _) (s.noteUnknown_responses ctype)) hr
  | frame | validate | revb | session | wrcfg | rdstat | clrstat =>
    obtain rfl := Host.Outcome.next.inj h
    exact flaggedResponse_of_ok rfl hr

/-- A step without reset flags its failure (60_exceptions R170, R172, R173). -/
theorem step_flaggedResponse {s t : State} {r : Response} (hreset : s.resetLine = false) (h : step s = .next t)
    (hr : t.responses = s.responses ++ [r]) : FlaggedResponse s t r := by
  rcases step_cases s with ⟨hline, _⟩ | ⟨_, p, _, e⟩ | ⟨_, _, _, e⟩ | ⟨_, hp, _, rest, i, _, _, e⟩ |
    ⟨_, _, _, rest, _, _, _, e⟩
  · simp [hreset] at hline
  · obtain rfl := Host.Outcome.next.inj (e.symm.trans h)
    exact (resume_transaction p s).flaggedResponse hr
  · obtain rfl := Host.Outcome.next.inj (e.symm.trans h)
    simp at hr
  · exact exec_flaggedResponse (s := s.setHost rest) hp (e.symm.trans h) hr
  · obtain rfl := Host.Outcome.next.inj (e.symm.trans h)
    obtain rfl := eq_of_responses_append (State.raiseIllegal_responses (s.setHost rest)) hr
    exact .inr (.inr ⟨rfl, .ill, List.mem_cons_self, State.raiseIllegal_sticky (s.setHost rest)⟩)

/-- Settles O56: the flags by `StepEffect`, the failure responses by `FlaggedResponse`. -/
theorem failuresAreFlagged : Obligations.FailuresAreFlagged := by
  intro s t hreset h
  refine ⟨?flags, fun r hr => (step_flaggedResponse hreset h hr).of_error,
    fun r hr => (step_flaggedResponse hreset h hr).of_negack⟩
  case flags =>
    intro hi
    rcases (step_stepEffect hreset h).sticky with ⟨hclr, _⟩ | ⟨_, hsticky⟩
    · exact absurd hclr hi
    · exact hsticky

end Sys2Proof.Machine
end

section
/-! # Reset, and the hazards around it

What reset gives and leaves (70_reset R190, R191), the invariant at reset, how long a request is held while TRANSPORT does not
answer (70_reset R200), and the longest BUILD, whose result no FRAME takes (70_reset R196). -/

namespace Sys2Proof.Machine

/-! ### A request that TRANSPORT does not answer (00_scope R7; 70_reset R200) -/

/-- A run along states each of whose steps answers the next one ends at the last of them. -/
theorem run_of_steps (f : Nat → State) (n : Nat) (hstep : ∀ k < n, step (f k) = .next (f (k + 1))) :
    Host.Core.run Sys2Proof.core n (f 0) = .next (f n) := by
  induction n generalizing f with
  | zero => rfl
  | succ n ih =>
    rw [run_succ n (hstep 0 n.succ_pos)]
    exact ih (fun k => f (k + 1)) fun k hk => hstep (k + 1) (Nat.succ_lt_succ hk)

/-- Holding again the request that was released for a step restores it (00_scope R7). -/
theorem State.hold_release {s : State} {p : Progress} (hp : s.progress = some p) : s.release.hold p = s := by
  rw [State.hold, State.release, ← hp]

/-- Where the write is still not answered, the step of a held transmission only counts the poll (00_scope R7). -/
theorem step_of_silent_write {s : State} {frame rest : List Byte} {b : Byte} {after : After} (hreset : s.resetLine = false)
    (hp : s.progress = some (.sending frame (b :: rest) after)) (hnone : s.txAnswer s.txPolls = none) :
    step s = .next s.tickTx := by
  have held : transmit frame after (b :: rest) s.release = s.release.tickTx.hold (.sending frame (b :: rest) after) := by
    simp [transmit, hnone]
  rw [step_of_held hreset hp, resume, held]
  exact congrArg _ (State.hold_release (s := s.tickTx) hp)

/-- Where the read is still not answered, the step of a held read only counts the poll (00_scope R7). -/
theorem step_of_silent_read {s : State} (hreset : s.resetLine = false) (hp : s.progress = some .receiving)
    (hnone : s.rxAnswer s.rxPolls = none) : step s = .next s.tickRx := by
  rw [step_of_held hreset hp, resume, receive_of_unanswered (s := s.release) hnone]
  exact congrArg _ (State.hold_release (s := s.tickRx) hp)

/-- Where reset is asserted the step is reset, whatever else waits (70_reset R191). -/
theorem step_of_reset {s : State} (hreset : s.resetLine = true) : step s = .next s.applyReset := by
  simp [step, State.activity, hreset]

/-- Settles O60: the run along the states that differ from the first in the count of polls alone. -/
theorem silentTransportHoldsTheRequest : Obligations.SilentTransportHoldsTheRequest := by
  intro n s hreset
  refine ⟨?write, ?read, ?reset⟩
  case write =>
    intro frame b rest after hp hsilent
    exact run_of_steps (fun k => { s with txPolls := s.txPolls + k }) n fun k hk =>
      step_of_silent_write (s := { s with txPolls := s.txPolls + k }) hreset hp (hsilent k hk)
  case read =>
    intro hp hsilent
    exact run_of_steps (fun k => { s with rxPolls := s.rxPolls + k }) n fun k hk =>
      step_of_silent_read (s := { s with rxPolls := s.rxPolls + k }) hreset hp (hsilent k hk)
  case reset => exact ⟨_, step_of_reset rfl, rfl⟩

/-! ### The longest BUILD (40_builder R86; 70_reset R196) -/

/-- The id makes the command bytes of a named type one longer than template and payload together (40_builder R83, R86). -/
theorem commandBytes_named_length (p : Params) (t : CmdType) (seq : Byte) (payload : List Byte) :
    (commandBytes p (.named t) seq payload).length = (cmdTmpl p t).length + payload.length + 1 := by
  rw [commandBytes_named, List.length_cons, List.length_append, descriptor_length]

/-- The length of the data operand is checked first, whatever the word (30_encoding R68). -/
theorem decode_of_long_data {maxData : Nat} {r : Request} (hlong : maxData < r.data.length) :
    decode maxData r = .error .dataTooLong := by
  simp [decode, hlong]

/-- Settles O24: the id alone makes the command bytes longer than the payload, which has MAX_DATA bytes. -/
theorem longestBuildResultIsNoFrameOperand : Obligations.LongestBuildResultIsNoFrameOperand := by
  intro s t seq seq' payload hlen
  have hlong : s.params.maxData < (commandBytes s.params (.named t) seq payload).length := by
    rw [commandBytes_named_length]
    omega
  exact ⟨_, _, exec_build_eq (.named t) seq payload s, rfl, decode_of_long_data hlong⟩

/-! ### The state reset gives (70_reset R190, R191) -/

/-- With FIRST set and no sticky bit STATUS is `01` (10_state R24, R25). -/
theorem State.status_of_clear {s : State} (hfirst : s.first = true) (hsticky : s.sticky = 0#7) : s.status = 0x01#8 := by
  rw [State.status, hfirst, hsticky]
  rfl

/-- With nothing in progress and nothing at the port the block waits (20_memory R54; 70_reset R190). -/
theorem step_of_idle {s : State} (hreset : s.resetLine = false) (hp : s.progress = none) (hh : s.host = []) :
    step s = .next s := by
  simp [step, State.activity, hreset, hp, hh]

/-- Settles O11: the values `State.reset` and `applyReset` give, and the idle step. -/
theorem resetStateWaitsForARequest : Obligations.ResetStateWaitsForARequest := by
  refine ⟨rfl, rfl, State.status_of_clear rfl rfl, rfl, rfl, ?reset, fun _ => step_of_idle⟩
  case reset =>
    intro s hreset
    exact ⟨_, step_of_reset hreset, rfl, rfl, State.status_of_clear rfl rfl, rfl, rfl, rfl, rfl, rfl, rfl⟩

/-- Settles O12: reset wins over the request in progress, and leaves the responses and WIRE. -/
theorem resetAbandonsTheRequest : Obligations.ResetAbandonsTheRequest := by
  intro s p hreset _
  exact ⟨_, step_of_reset hreset, rfl, rfl, rfl, rfl, rfl, State.status_of_clear rfl rfl⟩

/-! ### The invariant at reset (00_scope R8) -/

/-- A row of the open command table has at most 9 template bytes (40_builder R81). -/
theorem row_tmpl_length_le (code : Nat) : (Config.row code).tmpl.length ≤ 9 :=
  List.length_take_le 9 _

/-- LoadBitmap's template, which has a placeholder, is not empty (40_builder R81). -/
theorem loadBitmapTmpl_length_bounds : 0 < Config.loadBitmapTmpl.length ∧ Config.loadBitmapTmpl.length ≤ 9 :=
  ⟨Nat.succ_pos _, Nat.succ_le_succ (List.length_take_le 8 _)⟩

/-- The parameters are in the ranges of 00_scope R8, whatever the constants left open (log entry 2). -/
theorem params_wf : Config.params.wf = true := by
  obtain ⟨hpos, hle⟩ := loadBitmapTmpl_length_bounds
  simp [Params.wf, Config.params, row_tmpl_length_le, hle, Nat.mod_lt _ hpos]

/-- Settles O57: the parameters are in their ranges, and nothing is held, answered or read yet. -/
theorem invariantAtReset : Obligations.InvariantAtReset where
  params_wf := params_wf
  cfg_reserved := (by decide : (0x00#8 : Byte).extractLsb' 1 7 = 0#7)
  progress_sound := State.progressSound_of_none rfl
  error_sentinel := by simp [State.reset]
  reads_bounded := by simp [State.reset]

end Sys2Proof.Machine
end
